-- ==== Sys2Proof/Word.lean ====
section
/-! DEFINITION. The word types of the part: bytes, 32-bit words, and the numbers that name slots, entries, agents, lanes
and gates (00_scope, Conventions). -/

namespace Sys2Proof

/-- A byte on the management port or in the table image. -/
abbrev Byte := BitVec 8

/-- A lane word or a map word. -/
abbrev Word32 := BitVec 32

/-- The Timebase's 32-bit count of ticks (R59). -/
abbrev Stamp := BitVec 32

/-- A window slot, 0 to 63 (R1). -/
abbrev SlotId := Fin 64

/-- A claim entry, 0 to 47 (R94). -/
abbrev EntryId := Fin 48

/-- An agent, 0 to 31 (R130). -/
abbrev AgentId := Fin 32

/-- A check lane, L0 to L3. -/
abbrev LaneId := Fin 4

/-- A gate output, GATE0 to GATE7 (R144). -/
abbrev GateId := Fin 8

/-- A class of agents, 0 to 7 (R5). -/
abbrev ClassId := Fin 8

/-- A requester of the Table Arbiter in its circular order: 0 to 3 are the lanes, 4 is the management port (R142). -/
abbrev Requester := Fin 5

/-- A pulse pair (R34). -/
inductive PulsePair where
  | a
  | b
  deriving DecidableEq, Repr

/-- A pulse line: FRA and FRB restart, LNA and LNB advance (R36). -/
inductive PulseLine where
  | fra
  | lna
  | frb
  | lnb
  deriving DecidableEq, Repr

end Sys2Proof
end

