-- ==== Sys2Proof/Syntax.lean ====
section
/-! DEFINITION. The commands of the part: one constructor per row of spec/opcode_table.json, with the operands the Wire
Formats chapter carries, at their full width (R171, R172). -/

namespace Sys2Proof.Machine

/-- The 28-byte window field block of WINDOW CREATE, WINDOW MODIFY, WINDOW QUERY and the image, as carried (12.3). -/
structure FieldBlock where
  base : BitVec 40
  granule : Byte
  span : BitVec 16
  access : Byte
  rights : BitVec 16
  laneMask : Byte
  claimLimit : Byte
  holdLimit : Byte
  leaseMode : Byte
  leaseReload : BitVec 16
  expiryAction : Byte
  idleLimit : Byte
  flags : Byte
  walkStart : BitVec 40
  stride : Byte
  stepLimit : BitVec 16
  deriving DecidableEq, Repr

/-- A lane request: the fields of its three words (12.1). For RENEW, bits 15:0 of the address carry the renew count. -/
structure Request where
  kind : BitVec 4
  agent : AgentId
  tag : BitVec 4
  slot : Byte
  waitLimit : Byte
  address : BitVec 36
  length : BitVec 13
  deriving DecidableEq, Repr

end Sys2Proof.Machine

namespace Sys2Proof

open Machine

/-- The commands: the part's steps, each whole and indivisible. A management command's operands are those of the frame the
port holds (assumption 15); a lane request is the one in the lane's holder (assumption 16). -/
inductive Instr where
  /-- DEVICE_RESET (R162): RST_N falls. -/
  | deviceReset
  /-- RESET_RELEASE (R162): RST_N rises with the straps LOADEN and IMGA2..0 as given. -/
  | resetRelease (loaden : Bool) (imga : BitVec 3)
  /-- FRAME_START (R154): MSEL_N falls. -/
  | frameStart
  /-- FRAME_END (R156): MSEL_N rises after a frame of these bits, in the order MSDI showed them at the rising edges of MSCK:
  the bits of whole bytes, and those of a further byte that was not completed (R154). -/
  | frameEnd (bits extraBits : List Bool)
  /-- READ_RESPONSE (R157): a READ RESPONSE frame of these bits ends. -/
  | readResponse (bits : List Bool)
  /-- STATUS (R161). -/
  | status
  /-- AGENT_SET (R131). -/
  | agentSet (agent enabled cls lane quota : Byte)
  /-- AGENT_QUERY (R135). -/
  | agentQuery (agent : Byte)
  /-- WINDOW_CREATE (R13). -/
  | windowCreate (slot role : Byte) (block : FieldBlock)
  /-- WINDOW_MODIFY (R16). -/
  | windowModify (slot select : Byte) (block : FieldBlock)
  /-- WINDOW_QUERY (R19). -/
  | windowQuery (slot : Byte)
  /-- ACTIVATE (R20). -/
  | activate (slot : Byte)
  /-- DISARM (R21). -/
  | disarm (slot : Byte)
  /-- FREEZE (R22). -/
  | freeze (slot : Byte)
  /-- THAW (R23). -/
  | thaw (slot : Byte)
  /-- RENEW on the management port (R76). -/
  | renew (slot : Byte) (count : BitVec 16)
  /-- RETIRE (R121). -/
  | retire (slot force : Byte)
  /-- MAP_WRITE (R28). -/
  | mapWrite (slot index : Byte) (word : Word32)
  /-- MAP_READ (R30). -/
  | mapRead (slot index selector : Byte)
  /-- MAP_COMMIT (R31). -/
  | mapCommit (slot : Byte)
  /-- CLAIM_QUERY (R118). -/
  | claimQuery (entry : Byte)
  /-- CLEAR_ALL (R128). -/
  | clearAll
  /-- TIMEBASE (R61). -/
  | timebase (divider : BitVec 16) (flags run : Byte)
  /-- SETTINGS (R127). -/
  | settings (limit : Byte)
  /-- PULSE_SET (R37). -/
  | pulseSet (enables qualification : Byte)
  /-- GATE_BIND (R146). -/
  | gateBind (gate bind slot polarity mode : Byte)
  /-- GATES_SET (R147). -/
  | gatesSet (levels : Byte)
  /-- ATTENTION_ENABLE (R150). -/
  | attentionEnable (enables : Byte)
  /-- ACK (R150). -/
  | ack (causes : Byte) (slots : BitVec 64)
  /-- READ_EXPIRED (R151). -/
  | readExpired
  /-- REPORT_READ (R153). -/
  | reportRead
  /-- REPORT_CLEAR (R153). -/
  | reportClear
  /-- RELOAD (R169). -/
  | reload
  /-- LOAD_ABORT (R170). -/
  | loadAbort
  /-- REQUEST_TAKE (R136): an IDLE lane takes word 2. -/
  | requestTake (lane : LaneId) (word : Word32)
  /-- REQUEST_WITHDRAW (R136): the bridge lowers Ln_RQV after one or two words. -/
  | requestWithdraw (lane : LaneId)
  /-- LOOKUP_READ (R43). -/
  | lookupRead (lane : LaneId) (request : Request)
  /-- LOOKUP_WRITE (R43). -/
  | lookupWrite (lane : LaneId) (request : Request)
  /-- CLAIM_READ (R98). -/
  | claimRead (lane : LaneId) (request : Request)
  /-- CLAIM_WRITE (R98). -/
  | claimWrite (lane : LaneId) (request : Request)
  /-- RELEASE (R110). -/
  | release (lane : LaneId) (request : Request)
  /-- RENEW_REQUEST (R77): RENEW on a lane. -/
  | renewRequest (lane : LaneId) (request : Request)
  /-- BAD_KIND (R137): a request of an undefined kind. -/
  | badKind (lane : LaneId) (request : Request)
  /-- ANSWER_OFFER (R138). -/
  | answerOffer (lane : LaneId)
  /-- NOTICE_DELIVERY (R139). -/
  | noticeDelivery (lane : LaneId)
  /-- MESSAGE_TAKEN (R138). -/
  | messageTaken (lane : LaneId)
  /-- TICK (R60): a tick interval ends at the Timebase. -/
  | tick
  /-- WINDOW_TICK (R64): the Window Table takes a tick. -/
  | windowTick
  /-- LEASE_EXPIRY (R69): the lease count this slot owns reaches 0. -/
  | leaseExpiry (slot : SlotId)
  /-- IDLE_EXPIRY (R73): the idle count of this slot reaches 0. -/
  | idleExpiry (slot : SlotId)
  /-- DRAIN_EXPIRY (R124): the drain count this slot keeps reaches 0. -/
  | drainExpiry (slot : SlotId)
  /-- CLAIM_TICK (R113): the Claim Unit takes a tick. -/
  | claimTick
  /-- REVOCATION (R114): the hold countdown of this entry reaches 0. -/
  | revocation (entry : EntryId)
  /-- WAIT_EXPIRY (R115): the wait countdown of this entry reaches 0. -/
  | waitExpiry (entry : EntryId)
  /-- RESTART (R39). -/
  | restart (pair : PulsePair)
  /-- ADVANCE (R40). -/
  | advance (pair : PulsePair)
  /-- BUS_CHECK (R164): the bus check of an attempt, in which TWD read low this many times in a row from the first
  reading on (0: high at once; k: high after the k-th freeing pulse). -/
  | busCheck (lowReadings : Nat)
  /-- ADDRESS_NAK (R164): a NAK to an address byte, with the write bit (step 2) or with the read bit (step 4). -/
  | addressNak
  /-- OFFSET_NAK (R164): a NAK to the offset high byte or to the low one (step 3). -/
  | offsetNak
  /-- BUS_HELD (R165): a memory has held TWC low for more than 10000 loader clock periods. -/
  | busHeld
  /-- IMAGE_HEADER (R166): the last of these 16 header bytes has been read. -/
  | imageHeader (bytes : List Byte)
  /-- SETTINGS_RECORD (R166): the last of these 16 bytes has been read. -/
  | settingsRecord (bytes : List Byte)
  /-- AGENT_RECORD (R167): the last of these 8 bytes has been read. -/
  | agentRecord (bytes : List Byte)
  /-- WINDOW_RECORD (R167): the last of these 64 bytes has been read. -/
  | windowRecord (bytes : List Byte)
  /-- LOAD_SUCCESS (R168). -/
  | loadSuccess
  /-- LOAD_FAILURE (R167). -/
  | loadFailure
  /-- PULSE_LINE_SAMPLE (R35): one REFCLK sample of a line, as it leaves the synchroniser. -/
  | pulseLineSample (line : PulseLine) (high : Bool)
  /-- REQUEST_WORD (R136): an IDLE lane takes word 0 or word 1. -/
  | requestWord (lane : LaneId) (word : Word32)
  /-- SHIFT_OUT_COPY (R157): the code byte of a READ RESPONSE frame is complete. -/
  | shiftOutCopy
  deriving DecidableEq, Repr

end Sys2Proof
end

