-- ==== Sys2Proof/Decode.lean ====
section
/-! DEFINITION. The command that a word of the opcode table's bits spells. spec/opcode_table.json gives no row any bits
(every row's fields are empty), so no word spells a command. The wire layouts of the part itself (lane words, management
frames, image records) are decoded in Machine/Operands.lean. -/

namespace Sys2Proof

/-- No row of the opcode table gives bits: no word spells a command. -/
def decodeTableWord (_nbits _w : Nat) : Option Instr := none

end Sys2Proof
end

