-- ==== Sys2Proof/Config.lean ====
section
/-! DEFINITION. The numbers the manual fixes for the part, and the one value that neither it nor a command of the table
gives (assumptions 18 and 21). -/

namespace Sys2Proof.Config

/-- The divider after a device reset (R59). -/
def resetDivider : Nat := 10000

/-- The drain limit after a device reset (R127). -/
def resetDrainLimit : Nat := 16

/-- The longest lookup range in bytes (R45). -/
def maxLookupLength : Nat := 4096

/-- The end of the 36-bit shared address space. -/
def addressSpace : Nat := 2 ^ 36

/-- The largest span in bytes (R4). -/
def maxSpanBytes : Nat := 2 ^ 32

/-- The most slots a group has (R80). -/
def maxGroupSlots : Nat := 8

/-- The most attempts of one image load (R164). -/
def maxAttempts : Nat := 4

/-- The most freeing pulses of one bus check (R164). -/
def maxFreeingPulses : Nat := 9

/-- Whether the NAK of this number, counted from 0, came at the later of the two bytes that its row may mean: the address
byte with the read bit for ADDRESS_NAK, the offset low byte for OFFSET_NAK (R164). The memory decides it and the rows do not
say it: a free value (assumption 18). -/
opaque nakAtLaterByte : Nat → Bool

/-- The 7-bit device address of the image memory with IMGA2..0 at 0 (R164). -/
def imageDeviceBase : Nat := 0x58

/-- The marker of an image header (R166). -/
def imageMarker : Nat := 0x4446

/-- The version of an image header (R166). -/
def imageVersion : Nat := 1

/-- The code of READ RESPONSE (12.3). -/
def readResponseCode : Byte := 0x02

/-- The code of STATUS (12.3). -/
def statusCode : Byte := 0x01

/-- The code of LOAD ABORT (12.3). -/
def loadAbortCode : Byte := 0x59

end Sys2Proof.Config
end

