-- ==== Sys2Proof/Machine/State.lean ====
section
/-! DEFINITION. The state of the part: every record, count, flag and holder the manual names, and the queue of waiting
commands. Reset values are those of "after a device reset" in the rule that names each piece. -/

namespace Sys2Proof.Machine

/-- What stops the machine: nothing does. The manual names no event that stops the part; a command that is not
accepted is answered, and the machine goes on. No meaning raises a fault. -/
inductive Fault where
  deriving DecidableEq, Repr

/-- Why a command is rejected. -/
inductive Refusal where
  /-- Raised by exec's arm of a command that has no meaning yet; safe, since the machine then stops. -/
  | notModelled (mnemonic : String)
  deriving DecidableEq, Repr

/-- The service state (R162). -/
inductive Service where
  | ready
  | loading
  deriving DecidableEq, Repr

/-- Refusal reasons and load failure reasons (12.2). -/
inductive Reason where
  | notReady | agentOff | wrongLane | length | noWindow | frozen | retiring | split | unmapped | noRight | notHeld
  | badKind | duplicate | quota | tableFull | noLease | group
  | badSlot | badEntry | badAgent | slotBusy | state | badField | badSpan | align | claimsHeld | loading | frame
  | badCommand | notEmpty
  | busBusy | noDevice | busHeld | badHeader | badLength | badRecord | badSum | aborted
  deriving DecidableEq, Repr

/-! ### Window Table -/

/-- The six states of a window (R2); `opened` is OPEN. -/
inductive WState where
  | free | staged | armed | opened | frozen | draining
  deriving DecidableEq, Repr

/-- The role of a window (R3). -/
inductive Role where
  | solo | head | member
  deriving DecidableEq, Repr

/-- The access mode (R5). -/
inductive AccessMode where
  | openAccess | claimed
  deriving DecidableEq, Repr

/-- The rights of one class (R5). -/
inductive Right where
  | none | read | readWrite
  deriving DecidableEq, Repr

/-- The lease mode (R7). -/
inductive LeaseMode where
  | none | timed | uses
  deriving DecidableEq, Repr

/-- The expiry action (R7). -/
inductive ExpiryAction where
  | retire | freeze | reload
  deriving DecidableEq, Repr

/-- The loaded fields of a WALK group that is present (R9). -/
structure Walk where
  pair : PulsePair
  start : Nat
  stride : Nat
  stepLimit : Nat
  commitAtRestart : Bool
  deriving DecidableEq, Repr

/-- A window record (R2 to R11). -/
structure Window where
  state : WState
  role : Role
  base : Nat
  granule : Nat
  span : Nat
  access : AccessMode
  rights : Vector Right 8
  laneMask : Byte
  claimLimit : Nat
  holdLimit : Nat
  agentRenew : Bool
  leaseMode : LeaseMode
  leaseReload : Nat
  expiryAction : ExpiryAction
  leaseCount : Nat
  idleLimit : Option Nat
  idleCount : Nat
  walk : Option Walk
  stepCount : Nat
  overrun : Bool
  activeMap : BitVec 256
  shadowMap : BitVec 256
  shadowPending : Bool
  drainCount : Nat
  lastHold : Option Stamp
  deriving DecidableEq, Repr

/-- The record of a FREE slot: every field but the state is 0, absent or no (R1, R126; assumption 13). -/
def Window.free : Window where
  state := .free
  role := .solo
  base := 0
  granule := 0
  span := 0
  access := .openAccess
  rights := Vector.replicate 8 .none
  laneMask := 0
  claimLimit := 0
  holdLimit := 0
  agentRenew := false
  leaseMode := .none
  leaseReload := 0
  expiryAction := .retire
  leaseCount := 0
  idleLimit := none
  idleCount := 0
  walk := none
  stepCount := 0
  overrun := false
  activeMap := 0
  shadowMap := 0
  shadowPending := false
  drainCount := 0
  lastHold := none

/-! ### Claim Unit -/

/-- The state of a claim entry (R95). -/
inductive EState where
  | free | waiting | held | ended
  deriving DecidableEq, Repr

/-- The kind of a claim (R94). -/
inductive ClaimKind where
  | read | write
  deriving DecidableEq, Repr

/-- The latest result of an entry not reported in an answer (R116). -/
inductive EOutcome where
  | granted | waitExpired | revoked | windowGone
  deriving DecidableEq, Repr

/-- A claim entry (R94). -/
structure Entry where
  state : EState
  agent : AgentId
  slot : SlotId
  kind : ClaimKind
  stamp : Stamp
  countdown : Option Nat
  arrival : Nat
  outcome : Option EOutcome
  noticePending : Bool
  deriving DecidableEq, Repr

/-- A FREE entry: every field but the state is 0, absent or no (R94). -/
def Entry.free : Entry where
  state := .free
  agent := 0
  slot := 0
  kind := .read
  stamp := 0
  countdown := none
  arrival := 0
  outcome := none
  noticePending := false

/-! ### Agent Table -/

/-- An agent record (R130). -/
structure AgentRecord where
  enabled : Bool
  cls : ClassId
  lane : LaneId
  quota : Nat
  inUse : Nat
  deriving DecidableEq, Repr

/-- The agent record after a device reset (R130). -/
def AgentRecord.reset : AgentRecord where
  enabled := false
  cls := 0
  lane := 0
  quota := 0
  inUse := 0

/-! ### Check lanes -/

/-- The outcomes of an answer (12.1). -/
inductive AnswerOutcome where
  | granted | queued | busy | released | withdrawn | renewed | refused
  deriving DecidableEq, Repr

/-- An answer in a lane's answer holder: absent fields have their present bit clear (R171). -/
structure Answer where
  kind : BitVec 4
  tag : BitVec 4
  outcome : AnswerOutcome
  reason : Option Reason
  slot : Option Byte
  entry : Option EntryId
  laneMask : Option Byte
  deriving DecidableEq, Repr

/-- A notice on an answer channel, formed at its delivery (R139). -/
structure Notice where
  entry : EntryId
  slot : SlotId
  kind : ClaimKind
  outcome : EOutcome
  deriving DecidableEq, Repr

/-- The lane state (section 8.2). -/
inductive LaneState where
  | idle | waiting | answered
  deriving DecidableEq, Repr

/-- The answer channel (R138): FREE, offering the answer in the holder, or offering a notice. -/
inductive Channel where
  | free
  | answer
  | notice (n : Notice)
  deriving DecidableEq, Repr

/-- A check lane (R136 to R138). The word position is the number of words held. -/
structure Lane where
  state : LaneState
  words : List Word32
  request : Option Request
  answer : Option Answer
  channel : Channel
  deriving DecidableEq, Repr

/-- A lane after a device reset (R136, R141). -/
def Lane.reset : Lane where
  state := .idle
  words := []
  request := none
  answer := none
  channel := .free

/-! ### Timebase -/

/-- The Timebase (R59), with the ticks it has handed to the Window Table and to the Claim Unit and that these have not
yet taken (R60; assumption 5). `restarted` says that a divider load has restarted the interval of a RUNNING Timebase and
no REFCLK period has passed since: the end of an interval that was pending at the load is discarded (R62;
assumption 4). -/
structure Timebase where
  divider : Nat
  running : Bool
  subTick : Nat
  restarted : Bool
  stamp : Stamp
  windowTicks : Nat
  claimTicks : Nat
  deriving DecidableEq, Repr

/-- The Timebase after a device reset (R59). -/
def Timebase.reset : Timebase where
  divider := Config.resetDivider
  running := false
  subTick := 0
  restarted := false
  stamp := 0
  windowTicks := 0
  claimTicks := 0

/-! ### Pulse Unit -/

/-- The qualification setting of a line (R34). -/
inductive Qualification where
  | off | filter2 | filter4
  deriving DecidableEq, Repr

/-- One pulse line (R34). `sampled` says that the first sample after RST_N rose has loaded the qualified level; before
that, `high` is read by nothing (assumption 12). -/
structure LineState where
  setting : Qualification
  sampled : Bool
  high : Bool
  run : Nat
  deriving DecidableEq, Repr

/-- A pulse line after a device reset (R34). -/
def LineState.reset : LineState where
  setting := .off
  sampled := false
  high := false
  run := 0

/-- One pulse pair: its enable and two lines (R34), and the pulse events its edges have handed to the Window Table and
that it has not yet taken (R36; assumption 5). -/
structure PairState where
  enabled : Bool
  restartLine : LineState
  advanceLine : LineState
  restarts : Nat
  advances : Nat
  deriving DecidableEq, Repr

/-- A pulse pair after a device reset (R34). -/
def PairState.reset : PairState where
  enabled := false
  restartLine := LineState.reset
  advanceLine := LineState.reset
  restarts := 0
  advances := 0

/-! ### Gate Unit -/

/-- The polarity of a gate (R144). -/
inductive Polarity where
  | activeHigh | activeLow
  deriving DecidableEq, Repr

/-- The mode of a gate (R144). -/
inductive GateMode where
  | level | toggle
  deriving DecidableEq, Repr

/-- A gate record (R144). `unboundHigh` is the unbound level, `active` the phase. -/
structure Gate where
  binding : Option SlotId
  polarity : Polarity
  mode : GateMode
  unboundHigh : Bool
  active : Bool
  deriving DecidableEq, Repr

/-- A gate after a device reset (R144). -/
def Gate.reset : Gate where
  binding := none
  polarity := .activeHigh
  mode := .level
  unboundHigh := false
  active := false

/-! ### Attention Unit -/

/-- The attention causes (R149), in the order of their bits (12.2). -/
inductive Cause where
  | expired | idle | revoked | drainForced | walkOverrun | refusal | loadDone | loadFail
  deriving DecidableEq, Repr

/-- The contents of a refusal report that is HOLDING (R152). -/
structure Captured where
  lane : LaneId
  agent : AgentId
  kind : BitVec 4
  tag : BitVec 4
  locator : BitVec 36
  length : BitVec 13
  reason : Reason
  stamp : Stamp
  deriving DecidableEq, Repr

/-- The Attention Unit: cause set and enable set by their bits (R149), expired set by slot (R151), refusal report, EMPTY
when `report` is absent, and its "more" flag (R152). -/
structure Attention where
  causes : Byte
  enables : Byte
  expired : BitVec 64
  report : Option Captured
  more : Bool
  deriving DecidableEq, Repr

/-- The Attention Unit after a device reset (R149, R151, R152). -/
def Attention.reset : Attention where
  causes := 0
  enables := 0
  expired := 0
  report := none
  more := false

/-! ### Management Port -/

/-- A response (R159): refused when `reason` is present, and then without a body. -/
structure Response where
  code : Byte
  reason : Option Reason
  body : List Byte
  deriving DecidableEq, Repr

/-- The Management Port (R154 to R159). `held` is the taken command not yet completed: the port is BUSY while it is
present. `selected` says that a frame is in progress, `copied` that its shift-out copy was made, `placedSinceCopy` that a
response was placed after that copy (R157). -/
structure Port where
  selected : Bool
  statusLatch : Byte
  copied : Bool
  placedSinceCopy : Bool
  shiftOut : List Byte
  held : Option Instr
  buffer : Option Response
  respAvail : Bool
  respOverwritten : Bool
  discarded : Bool
  deriving DecidableEq, Repr

/-- The Management Port after a device reset (R155, R157, R159; assumption 12). -/
def Port.reset : Port where
  selected := false
  statusLatch := 0
  copied := false
  placedSinceCopy := false
  shiftOut := []
  held := none
  buffer := none
  respAvail := false
  respOverwritten := false
  discarded := false

/-! ### Image Loader -/

/-- The outcome of the load result (R163). -/
inductive LoadOutcome where
  | none | pending | done | failed
  deriving DecidableEq, Repr

/-- Why a load fails: the reason, and for BAD_RECORD the record's index and the refusal reason it drew (R163). -/
structure LoadFault where
  reason : Reason
  index : Option Nat
  why : Option Reason
  deriving DecidableEq, Repr

/-- The load result record (R163): `fault` is present when FAILED. -/
structure LoadResult where
  outcome : LoadOutcome
  fault : Option LoadFault
  attempts : Nat
  deriving DecidableEq, Repr

/-- Where a load stands (R164 to R168): no load; an attempt about to begin with its bus check; start made, in the
address and offset bytes or the header; in the settings record; in record `index`; the last byte read, the stop and the
comparison of the sum to come; or to end with a failure. -/
inductive LoadPhase where
  | idle
  | busCheck
  | addressing
  | settings
  | record (index : Nat)
  | ending
  | failing (f : LoadFault)
  deriving DecidableEq, Repr

/-- The settings record held until the end of a successful load (R166, R168). -/
structure HeldSettings where
  divider : Nat
  runAtEnd : Bool
  drainLimit : Nat
  enables : Byte
  deriving DecidableEq, Repr

/-- What the loader does on the two-wire port (R164): freeing pulses on TWC; a start, repeated start or stop condition; a
byte sent; bytes received, each acknowledged but for the last one where `nak` says so; the completion of a byte in progress
at which an aborted load ends (R170); the release of both lines. -/
inductive BusEvent where
  | pulses (count : Nat)
  | start
  | repeatedStart
  | send (byte : Byte)
  | receive (count : Nat) (nak : Bool)
  | finishByte
  | stop
  | release
  deriving DecidableEq, Repr

/-- The Image Loader: the load result (R163) and the load in progress. `abortAsked` says that a LOAD ABORT was taken (R170),
`started` that a start condition has been made with no stop since (R164, R170). `bus` is what the loader did on the two-wire
port at its last event (R164, R165; assumption 18). -/
structure Loader where
  result : LoadResult
  phase : LoadPhase
  abortAsked : Bool
  started : Bool
  bus : List BusEvent
  agentCount : Nat
  windowCount : Nat
  sumField : BitVec 16
  runningSum : BitVec 16
  settings : Option HeldSettings
  activateAtEnd : BitVec 64
  deriving DecidableEq, Repr

/-- The Image Loader after a device reset (R163; assumption 12). -/
def Loader.reset : Loader where
  result := { outcome := .none, fault := none, attempts := 0 }
  phase := .idle
  abortAsked := false
  started := false
  bus := []
  agentCount := 0
  windowCount := 0
  sumField := 0
  runningSum := 0
  settings := none
  activateAtEnd := 0

end Sys2Proof.Machine

namespace Sys2Proof.Machine

/-- The state of the part. `naks` and `pending` are the model's own: the number of NAKs taken, which numbers the free value
of each (assumption 18), and the queue of the commands to come (assumption 24). -/
structure State where
  rstLow : Bool
  service : Service
  imga : BitVec 3
  windows : Vector Window 64
  drainLimit : Nat
  entries : Vector Entry 48
  agents : Vector AgentRecord 32
  lanes : Vector Lane 4
  pointer : Requester
  timebase : Timebase
  pairA : PairState
  pairB : PairState
  gates : Vector Gate 8
  attn : Attention
  port : Port
  loader : Loader
  naks : Nat
  pending : List Instr
  deriving DecidableEq, Repr

/-- The part held in reset (R162): RST_N is low and every block is at its reset values. The first command of a run is
RESET_RELEASE (assumption 1). -/
def State.reset : State where
  rstLow := true
  service := .ready
  imga := 0
  windows := Vector.replicate 64 Window.free
  drainLimit := Config.resetDrainLimit
  entries := Vector.replicate 48 Entry.free
  agents := Vector.replicate 32 AgentRecord.reset
  lanes := Vector.replicate 4 Lane.reset
  pointer := 0
  timebase := Timebase.reset
  pairA := PairState.reset
  pairB := PairState.reset
  gates := Vector.replicate 8 Gate.reset
  attn := Attention.reset
  port := Port.reset
  loader := Loader.reset
  naks := 0
  pending := []

end Sys2Proof.Machine
end

