-- ==== Sys2Proof/Machine/Operands.lean ====
section
/-! DEFINITION. The wire formats (chapter 12): byte order, codes, the window field block, lane words, answers and notices,
management frames and responses. Every operand form is decoded here, once. -/

namespace Sys2Proof.Machine

/-! ### Bytes, most significant first (Conventions, byte order) -/

/-- The low `n` bytes of a number, most significant byte first. -/
def bytesOf : Nat → Nat → List Byte
  | 0, _ => []
  | n + 1, v => bytesOf n (v / 256) ++ [BitVec.ofNat 8 v]

/-- The number that bytes spell, most significant byte first. -/
def natOf (bytes : List Byte) : Nat := bytes.foldl (fun acc b => acc * 256 + b.toNat) 0

/-- The number in the `len` bytes at offset `off`. -/
def fieldAt (bytes : List Byte) (off len : Nat) : Nat := natOf ((bytes.drop off).take len)

/-- The byte at offset `off`. -/
def byteAt (bytes : List Byte) (off : Nat) : Byte := bytes.getD off 0

/-- Yes is 1, no is 0 (12.2). -/
def yesNo (b : Bool) : Byte := if b then 1 else 0

/-! ### Bits, most significant first (R154, R164) -/

/-- The eight bits of a byte in the order they go over a serial line. -/
def byteBits (b : Byte) : List Bool := (List.range 8).map fun i => b.getLsbD (7 - i)

/-- The byte that eight bits spell in the order they arrive. -/
def byteOfBits (bits : List Bool) : Byte := BitVec.ofNat 8 (bits.foldl (fun acc b => acc * 2 + b.toNat) 0)

/-- The first `n` bytes that bits spell. -/
def bytesOfBits : Nat → List Bool → List Byte
  | 0, _ => []
  | n + 1, bits => byteOfBits (bits.take 8) :: bytesOfBits n (bits.drop 8)

/-- The complete bytes of a frame: the bits sampled, grouped in the order they arrive (R154). -/
def frameBytes (bits : List Bool) : List Byte := bytesOfBits (bits.length / 8) bits

/-! ### Numbers that name a record -/

/-- The slot a byte names, when it is at most 63 (R1). -/
def slotOf (b : Byte) : Option SlotId := if h : b.toNat < 64 then some ⟨b.toNat, h⟩ else none

/-- The entry a byte names, when it is at most 47 (R94). -/
def entryOf (b : Byte) : Option EntryId := if h : b.toNat < 48 then some ⟨b.toNat, h⟩ else none

/-- The agent a byte names, when it is at most 31 (R130). -/
def agentOf (b : Byte) : Option AgentId := if h : b.toNat < 32 then some ⟨b.toNat, h⟩ else none

/-- The gate a byte names, when it is at most 7 (R146). -/
def gateOf (b : Byte) : Option GateId := if h : b.toNat < 8 then some ⟨b.toNat, h⟩ else none

/-! ### Codes (12.1, 12.2, 12.3) -/

/-- The code of a reason (12.2). -/
def Reason.code : Reason → Nat
  | .notReady => 1 | .agentOff => 2 | .wrongLane => 3 | .length => 4 | .noWindow => 5 | .frozen => 6
  | .retiring => 7 | .split => 8 | .unmapped => 9 | .noRight => 10 | .notHeld => 11 | .badKind => 12
  | .duplicate => 13 | .quota => 14 | .tableFull => 15 | .noLease => 16 | .group => 17
  | .badSlot => 32 | .badEntry => 33 | .badAgent => 34 | .slotBusy => 35 | .state => 36 | .badField => 37
  | .badSpan => 38 | .align => 39 | .claimsHeld => 40 | .loading => 41 | .frame => 42 | .badCommand => 43
  | .notEmpty => 44
  | .busBusy => 64 | .noDevice => 65 | .busHeld => 66 | .badHeader => 67 | .badLength => 68 | .badRecord => 69
  | .badSum => 70 | .aborted => 71

/-- The code of a reason that may be absent: 0 when absent (12.1, 12.3). -/
def reasonCode : Option Reason → Nat
  | none => 0
  | some r => r.code

def WState.code : WState → Byte
  | .free => 0 | .staged => 1 | .armed => 2 | .opened => 3 | .frozen => 4 | .draining => 5

def Role.code : Role → Byte
  | .solo => 0 | .head => 1 | .member => 2

/-- The role a code names, if it names one. -/
def roleOf (b : Byte) : Option Role :=
  match b.toNat with
  | 0 => some .solo
  | 1 => some .head
  | 2 => some .member
  | _ => none

def AccessMode.code : AccessMode → Byte
  | .openAccess => 0 | .claimed => 1

def Right.code : Right → Nat
  | .none => 0 | .read => 1 | .readWrite => 2

def LeaseMode.code : LeaseMode → Byte
  | .none => 0 | .timed => 1 | .uses => 2

def ExpiryAction.code : ExpiryAction → Byte
  | .retire => 0 | .freeze => 1 | .reload => 2

def EState.code : EState → Byte
  | .free => 0 | .waiting => 1 | .held => 2 | .ended => 3

def ClaimKind.code : ClaimKind → Nat
  | .read => 0 | .write => 1

def EOutcome.code : EOutcome → Nat
  | .granted => 0 | .waitExpired => 1 | .revoked => 2 | .windowGone => 3

def Service.code : Service → Byte
  | .ready => 0 | .loading => 1

def LoadOutcome.code : LoadOutcome → Byte
  | .none => 0 | .pending => 1 | .done => 2 | .failed => 3

def AnswerOutcome.code : AnswerOutcome → Nat
  | .granted => 0 | .queued => 1 | .busy => 2 | .released => 3 | .withdrawn => 4 | .renewed => 5 | .refused => 6

def Qualification.code : Qualification → Nat
  | .off => 0 | .filter2 => 1 | .filter4 => 2

/-- The qualification setting a 2-bit code names, if it names one (12.3). -/
def qualificationOf (n : Nat) : Option Qualification :=
  match n with
  | 0 => some .off
  | 1 => some .filter2
  | 2 => some .filter4
  | _ => none

def Polarity.code : Polarity → Byte
  | .activeHigh => 0 | .activeLow => 1

def GateMode.code : GateMode → Byte
  | .level => 0 | .toggle => 1

/-! ### The window field block (12.3) -/

/-- The field block spelled by its 28 bytes. -/
def parseBlock (bytes : List Byte) : FieldBlock where
  base := BitVec.ofNat 40 (fieldAt bytes 0 5)
  granule := byteAt bytes 5
  span := BitVec.ofNat 16 (fieldAt bytes 6 2)
  access := byteAt bytes 8
  rights := BitVec.ofNat 16 (fieldAt bytes 9 2)
  laneMask := byteAt bytes 11
  claimLimit := byteAt bytes 12
  holdLimit := byteAt bytes 13
  leaseMode := byteAt bytes 14
  leaseReload := BitVec.ofNat 16 (fieldAt bytes 15 2)
  expiryAction := byteAt bytes 17
  idleLimit := byteAt bytes 18
  flags := byteAt bytes 19
  walkStart := BitVec.ofNat 40 (fieldAt bytes 20 5)
  stride := byteAt bytes 25
  stepLimit := BitVec.ofNat 16 (fieldAt bytes 26 2)

/-- The 28 bytes of a field block. -/
def FieldBlock.bytes (b : FieldBlock) : List Byte :=
  bytesOf 5 b.base.toNat ++ [b.granule] ++ bytesOf 2 b.span.toNat ++ [b.access] ++ bytesOf 2 b.rights.toNat
    ++ [b.laneMask, b.claimLimit, b.holdLimit, b.leaseMode] ++ bytesOf 2 b.leaseReload.toNat
    ++ [b.expiryAction, b.idleLimit, b.flags] ++ bytesOf 5 b.walkStart.toNat ++ [b.stride]
    ++ bytesOf 2 b.stepLimit.toNat

/-- Flag bit 0: agent renew ALLOWED. -/
def FieldBlock.agentRenew (b : FieldBlock) : Bool := b.flags.getLsbD 0
/-- Flag bit 1: idle present. -/
def FieldBlock.idlePresent (b : FieldBlock) : Bool := b.flags.getLsbD 1
/-- Flag bit 2: walk present. -/
def FieldBlock.walkPresent (b : FieldBlock) : Bool := b.flags.getLsbD 2
/-- Flag bit 3: walk pair, 0 for A and 1 for B. -/
def FieldBlock.pair (b : FieldBlock) : PulsePair := if b.flags.getLsbD 3 then .b else .a
/-- Flag bit 4: commit-at-restart. -/
def FieldBlock.commitAtRestart (b : FieldBlock) : Bool := b.flags.getLsbD 4

/-- The 2-bit code of class `c` in the rights field: bits 2c + 1 … 2c. -/
def FieldBlock.rightCode (b : FieldBlock) (c : ClassId) : Nat := b.rights.toNat / 4 ^ c.val % 4

/-- The rights a 2-bit code names; 3 names none and is refused before it is loaded (R172). -/
def rightOf (code : Nat) : Right :=
  match code with
  | 1 => .read
  | 2 => .readWrite
  | _ => .none

/-- The lease mode a code names, if it names one. -/
def leaseModeOf (b : Byte) : Option LeaseMode :=
  match b.toNat with
  | 0 => some .none
  | 1 => some .timed
  | 2 => some .uses
  | _ => none

/-- The expiry action a code names, if it names one. -/
def expiryActionOf (b : Byte) : Option ExpiryAction :=
  match b.toNat with
  | 0 => some .retire
  | 1 => some .freeze
  | 2 => some .reload
  | _ => none

/-- The rights field of a window, as a 16-bit number. -/
def rightsField (rights : Vector Right 8) : Nat :=
  (List.finRange 8).foldl (fun acc c => acc + rights[c].code * 4 ^ c.val) 0

/-- The field block of a window record as it stands: absent fields are 0 with their present flag clear (assumption 8). -/
def Window.block (w : Window) : FieldBlock where
  base := BitVec.ofNat 40 w.base
  granule := BitVec.ofNat 8 w.granule
  span := BitVec.ofNat 16 w.span
  access := w.access.code
  rights := BitVec.ofNat 16 (rightsField w.rights)
  laneMask := w.laneMask
  claimLimit := BitVec.ofNat 8 w.claimLimit
  holdLimit := BitVec.ofNat 8 w.holdLimit
  leaseMode := w.leaseMode.code
  leaseReload := BitVec.ofNat 16 w.leaseReload
  expiryAction := w.expiryAction.code
  idleLimit := BitVec.ofNat 8 (w.idleLimit.getD 0)
  flags :=
    BitVec.ofNat 8 ((if w.agentRenew then 1 else 0) + (if w.idleLimit.isSome then 2 else 0)
      + match w.walk with
        | none => 0
        | some k => 4 + (if k.pair = .b then 8 else 0) + (if k.commitAtRestart then 16 else 0))
  walkStart := BitVec.ofNat 40 ((w.walk.map Walk.start).getD 0)
  stride := BitVec.ofNat 8 ((w.walk.map Walk.stride).getD 0)
  stepLimit := BitVec.ofNat 16 ((w.walk.map Walk.stepLimit).getD 0)

/-! ### Lane words (12.1) -/

/-- The request spelled by its three words; bits marked "not read" are dropped (R171). -/
def decodeRequest (w0 w1 w2 : Word32) : Request where
  kind := w0.extractLsb' 0 4
  agent := Fin.ofNat 32 (w0.toNat / 2 ^ 4)
  tag := w0.extractLsb' 9 4
  slot := w0.extractLsb' 13 8
  waitLimit := w0.extractLsb' 21 8
  address := w2.extractLsb' 0 4 ++ w1
  length := w2.extractLsb' 4 13

/-- The renew count of a RENEW request: address bits 15:0 (12.1). -/
def Request.renewCount (r : Request) : BitVec 16 := r.address.extractLsb' 0 16

/-- Word 0 of an answer. -/
def Answer.word0 (a : Answer) : Word32 :=
  BitVec.ofNat 32 (a.kind.toNat * 2 ^ 1 + a.tag.toNat * 2 ^ 5 + a.outcome.code * 2 ^ 9 + reasonCode a.reason * 2 ^ 12
    + (if a.slot.isSome then 2 ^ 17 else 0) + (a.slot.getD 0).toNat * 2 ^ 18)

/-- Word 1 of an answer. -/
def Answer.word1 (a : Answer) : Word32 :=
  BitVec.ofNat 32 ((a.entry.getD 0).val + (if a.entry.isSome then 2 ^ 6 else 0) + (a.laneMask.getD 0).toNat * 2 ^ 7
    + (if a.laneMask.isSome then 2 ^ 15 else 0))

/-- Word 0 of a notice; its word 1 is 0. -/
def Notice.word0 (n : Notice) : Word32 :=
  BitVec.ofNat 32 (1 + n.entry.val * 2 ^ 1 + n.slot.val * 2 ^ 7 + n.kind.code * 2 ^ 13 + n.outcome.code * 2 ^ 14)

/-- The two words a lane offers under Ln_ANV, when its channel is not FREE (R138, 12.5). -/
def Lane.answerBus (l : Lane) : Option (Word32 × Word32) :=
  match l.channel with
  | .free => none
  | .answer => l.answer.map fun a => (a.word0, a.word1)
  | .notice n => some (n.word0, 0)

/-! ### Management frames and responses (12.3) -/

/-- The bytes of a response: header and body. -/
def Response.bytes (r : Response) : List Byte :=
  [r.code, yesNo r.reason.isSome, BitVec.ofNat 8 (reasonCode r.reason), BitVec.ofNat 8 r.body.length] ++ r.body

/-- Byte `k` of a frame on MSDO: the latched status byte, then the shift-out register, then 0 (R154, R157). Undriven
(absent) while no frame is in progress, and so too when RST_N rises with MSEL_N still low after a frame that reset has
abandoned: the manual gives no value there, and the model leaves MSDO undriven until the next FRAME_START
(assumption 26). -/
def Port.msdoByte (p : Port) (k : Nat) : Option Byte :=
  if p.selected then
    some (match k with
      | 0 => p.statusLatch
      | j + 1 => p.shiftOut.getD j 0)
  else none

/-- The bit on MSDO at rising edge `n` of MSCK in a frame, counted from 0: each byte most significant bit first (R154). -/
def Port.msdoBit (p : Port) (n : Nat) : Option Bool := (p.msdoByte (n / 8)).map fun b => b.getLsbD (7 - n % 8)

/-! ### The two-wire port (R164) -/

/-- The device address byte: the address in bits 7:1 and the direction in bit 0, 1 for read (R164). -/
def addressByte (imga : BitVec 3) (read : Bool) : Byte :=
  BitVec.ofNat 8 ((Config.imageDeviceBase + imga.toNat) * 2 + read.toNat)

/-- Step 2 of an attempt: the start condition and the device address with the write bit (R164). -/
def startAddress (imga : BitVec 3) : List BusEvent := [.start, .send (addressByte imga false)]

/-- Steps 3 and 4 of an attempt: the offset bytes, both 0, the repeated start and the device address with the read bit
(R164). -/
def offsetAndReadAddress (imga : BitVec 3) : List BusEvent :=
  [.send 0, .send 0, .repeatedStart, .send (addressByte imga true)]

/-- One clock of TWC with TWD as given: TWD changes while TWC is low, and is read while it is high (R164). A pair says
whether the part leaves TWC and TWD released. -/
def busClock (twd : Bool) : List (Bool × Bool) := [(false, twd), (true, twd), (false, twd)]

/-- What the part does with TWC and TWD in an event on the bus: start and stop are TWD falling and rising while TWC is
high; a byte is eight clocks and a ninth in which the receiver drives TWD low to acknowledge it (R164). -/
def BusEvent.lines : BusEvent → List (Bool × Bool)
  | .pulses count => (List.replicate count [(false, true), (true, true)]).flatten
  | .start => [(true, true), (true, false), (false, false)]
  | .repeatedStart => [(false, true), (true, true), (true, false), (false, false)]
  | .send byte => ((byteBits byte).map busClock).flatten ++ busClock true
  | .receive count nak =>
    ((List.range count).map fun i =>
      (List.replicate 8 (busClock true)).flatten ++ busClock (nak && i + 1 == count)).flatten
  | .finishByte => busClock true
  | .stop => [(false, false), (true, false), (true, true)]
  | .release => [(true, true)]

/-- Whether the part leaves TWC and TWD released: both while RST_N is low, and else as its last event on the bus left them.
After a command with no event on the bus, both where no start stands without its stop, and else as the byte sent before left
them: TWC low after its ninth clock, TWD released (R162, R164). -/
def State.twoWire (s : State) : Bool × Bool :=
  if s.rstLow then (true, true)
  else (s.loader.bus.map BusEvent.lines).flatten.getLastD (!s.loader.started, true)

/-- The levels of the open-drain lines TWC and TWD: high through the pull-up unless the part or another device drives the
line low (R162). -/
def State.twoWireHigh (s : State) (otherTwcLow otherTwdLow : Bool) : Bool × Bool :=
  (s.twoWire.1 && !otherTwcLow, s.twoWire.2 && !otherTwdLow)

/-! ### Management frames (12.3) -/

/-- The number of operand bytes of each command code (12.3); READ RESPONSE is not judged by its length (R156). -/
def operandCount (code : Byte) : Option Nat :=
  match code.toNat with
  | 0x01 => some 0
  | 0x10 => some 5
  | 0x11 => some 1
  | 0x20 => some 30
  | 0x21 => some 30
  | 0x22 => some 1
  | 0x23 => some 1
  | 0x24 => some 1
  | 0x25 => some 1
  | 0x26 => some 1
  | 0x27 => some 3
  | 0x28 => some 2
  | 0x30 => some 6
  | 0x31 => some 3
  | 0x32 => some 1
  | 0x38 => some 1
  | 0x40 => some 0
  | 0x41 => some 4
  | 0x42 => some 1
  | 0x43 => some 2
  | 0x48 => some 5
  | 0x49 => some 1
  | 0x50 => some 1
  | 0x51 => some 9
  | 0x52 => some 0
  | 0x53 => some 0
  | 0x54 => some 0
  | 0x58 => some 0
  | 0x59 => some 0
  | _ => none

/-- The command a code and its operand bytes spell (12.3). The operands are those of `operandCount` in number. -/
def parseCommand (code : Byte) (ops : List Byte) : Option Instr :=
  match code.toNat with
  | 0x01 => some .status
  | 0x10 => some (.agentSet (byteAt ops 0) (byteAt ops 1) (byteAt ops 2) (byteAt ops 3) (byteAt ops 4))
  | 0x11 => some (.agentQuery (byteAt ops 0))
  | 0x20 => some (.windowCreate (byteAt ops 0) (byteAt ops 1) (parseBlock (ops.drop 2)))
  | 0x21 => some (.windowModify (byteAt ops 0) (byteAt ops 1) (parseBlock (ops.drop 2)))
  | 0x22 => some (.windowQuery (byteAt ops 0))
  | 0x23 => some (.activate (byteAt ops 0))
  | 0x24 => some (.disarm (byteAt ops 0))
  | 0x25 => some (.freeze (byteAt ops 0))
  | 0x26 => some (.thaw (byteAt ops 0))
  | 0x27 => some (.renew (byteAt ops 0) (BitVec.ofNat 16 (fieldAt ops 1 2)))
  | 0x28 => some (.retire (byteAt ops 0) (byteAt ops 1))
  | 0x30 => some (.mapWrite (byteAt ops 0) (byteAt ops 1) (BitVec.ofNat 32 (fieldAt ops 2 4)))
  | 0x31 => some (.mapRead (byteAt ops 0) (byteAt ops 1) (byteAt ops 2))
  | 0x32 => some (.mapCommit (byteAt ops 0))
  | 0x38 => some (.claimQuery (byteAt ops 0))
  | 0x40 => some .clearAll
  | 0x41 => some (.timebase (BitVec.ofNat 16 (fieldAt ops 0 2)) (byteAt ops 2) (byteAt ops 3))
  | 0x42 => some (.settings (byteAt ops 0))
  | 0x43 => some (.pulseSet (byteAt ops 0) (byteAt ops 1))
  | 0x48 => some (.gateBind (byteAt ops 0) (byteAt ops 1) (byteAt ops 2) (byteAt ops 3) (byteAt ops 4))
  | 0x49 => some (.gatesSet (byteAt ops 0))
  | 0x50 => some (.attentionEnable (byteAt ops 0))
  | 0x51 => some (.ack (byteAt ops 0) (BitVec.ofNat 64 (fieldAt ops 1 8)))
  | 0x52 => some .readExpired
  | 0x53 => some .reportRead
  | 0x54 => some .reportClear
  | 0x58 => some .reload
  | 0x59 => some .loadAbort
  | _ => none

/-- Word `w` of a map: map bits 32w to 32w + 31 (R27). -/
def mapWord (m : BitVec 256) (w : Nat) : Word32 := m.extractLsb' (32 * w) 32

/-- A map with word `w` replaced, and every other bit kept (R28). -/
def setMapWord (m : BitVec 256) (w : Nat) (word : Word32) : BitVec 256 :=
  (m &&& ~~~((BitVec.allOnes 32).setWidth 256 <<< (32 * w))) ||| (word.setWidth 256 <<< (32 * w))

/-- The map whose bits 0 … n − 1 are set and the rest clear (R15). -/
def fullMap (n : Nat) : BitVec 256 := BitVec.ofNat 256 (2 ^ n - 1)

/-- The map spelled by the eight map words of an image window record (12.4). -/
def mapOfBytes (bytes : List Byte) : BitVec 256 :=
  (List.range 8).foldl (fun m w => setMapWord m w (BitVec.ofNat 32 (fieldAt bytes (4 * w) 4))) 0

end Sys2Proof.Machine
end

