-- ==== Sys2Proof/Machine/Flags.lean ====
section
/-! DEFINITION. The flags and pins that follow from the state: attention causes and ATTN_N (R149), the status byte (R155,
12.3), gate phases and pin levels (R145). -/

namespace Sys2Proof.Machine

/-! ### Attention causes (R149) -/

/-- The bit of a cause in a cause set byte (12.2). -/
def Cause.bit : Cause → Nat
  | .expired => 0 | .idle => 1 | .revoked => 2 | .drainForced => 3 | .walkOverrun => 4 | .refusal => 5
  | .loadDone => 6 | .loadFail => 7

/-- The cause set with one cause, as a byte. -/
def Cause.mask (c : Cause) : Byte := 1#8 <<< c.bit

/-- Raising a cause puts it in the cause set, whether or not it is enabled. -/
def Attention.raise (a : Attention) (c : Cause) : Attention := { a with causes := a.causes ||| c.mask }

/-- Whether a cause is in the cause set. -/
def Attention.has (a : Attention) (c : Cause) : Bool := a.causes.getLsbD c.bit

/-- At least one cause is in both the cause set and the enable set: the ATTN flag, and ATTN_N driven low. -/
def Attention.asserted (a : Attention) : Bool := (a.causes &&& a.enables) != 0

/-- The level of ATTN_N, high or low; high while RST_N is low (R149). -/
def State.attnPinHigh (s : State) : Bool := s.rstLow || !s.attn.asserted

/-- Adding a slot to the expired set; a slot already there stays there once (R151). -/
def Attention.addExpired (a : Attention) (k : SlotId) : Attention :=
  { a with expired := a.expired ||| (1#64 <<< k.val) }

/-- The number of slots in the expired set. -/
def Attention.expiredCount (a : Attention) : Nat := (List.range 64).countP fun i => a.expired.getLsbD i

/-! ### The status byte (R155, 12.3) -/

/-- The status byte as it stands: BUSY, LOADING, RESP_AVAIL, RESP_OVERWRITTEN, DISCARDED, ATTN in bits 7 to 2. -/
def State.statusByte (s : State) : Byte :=
  BitVec.ofNat 8
    ((if s.port.held.isSome then 128 else 0) + (if s.service = .loading then 64 else 0)
      + (if s.port.respAvail then 32 else 0) + (if s.port.respOverwritten then 16 else 0)
      + (if s.port.discarded then 8 else 0) + (if s.attn.asserted then 4 else 0))

/-! ### Gates (R145) -/

/-- A gate after the report that its bound slot changed from one state to another: a LEVEL gate is ACTIVE exactly when
the new state is OPEN; a TOGGLE gate becomes INACTIVE when the window enters or leaves OPEN. A report of no change, or of
another slot, leaves the gate as it is (R24, R145). -/
def Gate.report (k : SlotId) (old new : WState) (g : Gate) : Gate :=
  if g.binding = some k ∧ old ≠ new then
    match g.mode with
    | .level => { g with active := new == .opened }
    | .toggle => if old = .opened ∨ new = .opened then { g with active := false } else g
  else g

/-- A gate after the report of a RELOAD expiry of its bound slot: a TOGGLE gate flips (R70, R145). -/
def Gate.flip (k : SlotId) (g : Gate) : Gate :=
  if g.binding = some k ∧ g.mode = .toggle then { g with active := !g.active } else g

/-- The level of a gate's pin: the unbound level, or the phase under the polarity (R145). -/
def Gate.pinHigh (g : Gate) : Bool :=
  match g.binding with
  | none => g.unboundHigh
  | some _ =>
    match g.polarity with
    | .activeHigh => g.active
    | .activeLow => !g.active

/-- The levels of the eight gate pins, bit i for GATE i (12.3). -/
def pinLevels (gates : Vector Gate 8) : Byte :=
  BitVec.ofNat 8 ((List.finRange 8).foldl (fun acc i => acc + if gates[i].pinHigh then 2 ^ i.val else 0) 0)

end Sys2Proof.Machine
end

