-- ==== Sys2Proof/WellFormed.lean ====
section
/-! DEFINITION. Which commands are well formed: those whose operands can occur on the part's wires. The operand types
already hold every field to its width; what is left is checked here. An ill-formed command is one that cannot occur, and
changes nothing (assumption 2). -/

namespace Sys2Proof.Machine

/-- Kind codes 1 to 6 are defined, 0 and 7 to 15 are not (12.1). -/
def Request.kindDefined (r : Request) : Bool := 1 ≤ r.kind.toNat && r.kind.toNat ≤ 6

end Sys2Proof.Machine

namespace Sys2Proof

/-- The number of bytes of an image header and of a settings record (R166). -/
def Instr.headerBytes : Nat := 16

/-- The number of bytes of an agent record (R166). -/
def Instr.agentRecordBytes : Nat := 8

/-- The number of bytes of a window record (R166). -/
def Instr.windowRecordBytes : Nat := 64

/-- A command whose operands can occur: a frame in whole bytes and fewer than eight bits left over (R154), a READ RESPONSE
frame whose first byte is complete and is its code (R156), the kind code of the row (12.1), and image parts of their lengths
(R166). -/
def Instr.wf : Instr → Bool
  | .frameEnd bits extraBits => bits.length % 8 == 0 && decide (extraBits.length < 8)
  | .readResponse bits => (Machine.frameBytes bits).head? == some Config.readResponseCode
  | .lookupRead _ r => r.kind == 1
  | .lookupWrite _ r => r.kind == 2
  | .claimRead _ r => r.kind == 3
  | .claimWrite _ r => r.kind == 4
  | .release _ r => r.kind == 5
  | .renewRequest _ r => r.kind == 6
  | .badKind _ r => !r.kindDefined
  | .imageHeader bytes => bytes.length == Instr.headerBytes
  | .settingsRecord bytes => bytes.length == Instr.headerBytes
  | .agentRecord bytes => bytes.length == Instr.agentRecordBytes
  | .windowRecord bytes => bytes.length == Instr.windowRecordBytes
  | .deviceReset | .resetRelease _ _ | .frameStart | .status | .agentSet _ _ _ _ _ | .agentQuery _
  | .windowCreate _ _ _ | .windowModify _ _ _ | .windowQuery _ | .activate _ | .disarm _ | .freeze _ | .thaw _
  | .renew _ _ | .retire _ _ | .mapWrite _ _ _ | .mapRead _ _ _ | .mapCommit _ | .claimQuery _ | .clearAll
  | .timebase _ _ _ | .settings _ | .pulseSet _ _ | .gateBind _ _ _ _ _ | .gatesSet _ | .attentionEnable _
  | .ack _ _ | .readExpired | .reportRead | .reportClear | .reload | .loadAbort | .requestTake _ _
  | .requestWithdraw _ | .answerOffer _ | .noticeDelivery _ | .messageTaken _ | .tick | .windowTick | .leaseExpiry _
  | .idleExpiry _ | .drainExpiry _ | .claimTick | .revocation _ | .waitExpiry _ | .restart _ | .advance _
  | .busCheck _ | .addressNak | .offsetNak | .busHeld | .loadSuccess | .loadFailure | .pulseLineSample _ _
  | .requestWord _ _ | .shiftOutCopy => true

end Sys2Proof
end

