-- ==== Sys2Proof/Machine/Ops.lean ====
section
/-! DEFINITION. The named operations over the part's records: access to each table, the report of a state change, groups,
claims and their queues, grant passes, retirement and freeing, lease expiry, and the taking of a management command or a
lane request. The meanings of the commands are written over these. -/

namespace Sys2Proof

/-- The commands routed direct to the Timebase, the Pulse Unit or the Image Loader (R158). -/
def Instr.direct (c : Instr) : Bool :=
  match c with
  | .timebase _ _ _ | .pulseSet _ _ | .loadAbort => true
  | _ => false

end Sys2Proof

namespace Sys2Proof.Machine

/-- A vector by its elements. -/
def tabulate {α : Type} (n : Nat) (f : Fin n → α) : Vector α n := ⟨⟨(List.finRange n).map f⟩, by simp⟩

/-- The outcome of a command. -/
abbrev Result := Host.Outcome State Fault Refusal

/-! ### Access to the tables -/

def State.window (s : State) (k : SlotId) : Window := s.windows[k]
def State.entry (s : State) (i : EntryId) : Entry := s.entries[i]
def State.agent (s : State) (a : AgentId) : AgentRecord := s.agents[a]
def State.lane (s : State) (l : LaneId) : Lane := s.lanes[l]
def State.gate (s : State) (g : GateId) : Gate := s.gates[g]

/-- Every write of a window record goes through here: the change of state, if any, is reported to the Gate Unit in the
same event (R24). -/
def State.putWindow (s : State) (k : SlotId) (w : Window) : State :=
  { s with
    windows := s.windows.set k w
    gates := tabulate 8 fun g => (s.gate g).report k (s.window k).state w.state }

def State.modifyWindow (s : State) (k : SlotId) (f : Window → Window) : State := s.putWindow k (f (s.window k))
def State.putEntry (s : State) (i : EntryId) (e : Entry) : State := { s with entries := s.entries.set i e }
def State.putAgent (s : State) (a : AgentId) (r : AgentRecord) : State := { s with agents := s.agents.set a r }
def State.putLane (s : State) (l : LaneId) (x : Lane) : State := { s with lanes := s.lanes.set l x }
def State.putGate (s : State) (g : GateId) (x : Gate) : State := { s with gates := s.gates.set g x }

/-- The same change of every entry. -/
def State.mapEntries (s : State) (f : Entry → Entry) : State :=
  { s with entries := tabulate 48 fun i => f (s.entry i) }

/-- One change of each slot of a list, in order. -/
def State.modifyWindows (s : State) (slots : List SlotId) (f : Window → Window) : State :=
  slots.foldl (fun t k => t.modifyWindow k f) s

/-- Raising an attention cause (R149). -/
def State.raise (s : State) (c : Cause) : State := { s with attn := s.attn.raise c }

/-- Adding a slot to the expired set (R151). -/
def State.addExpired (s : State) (k : SlotId) : State := { s with attn := s.attn.addExpired k }

/-- The TOGGLE gates bound to a slot flip (R70). -/
def State.flipToggles (s : State) (k : SlotId) : State :=
  { s with gates := tabulate 8 fun g => (s.gate g).flip k }

def State.pair (s : State) : PulsePair → PairState
  | .a => s.pairA
  | .b => s.pairB

def State.putPair (s : State) (p : PulsePair) (x : PairState) : State :=
  match p with
  | .a => { s with pairA := x }
  | .b => { s with pairB := x }

/-- The number of FREE slots (R161). -/
def State.freeSlots (s : State) : Nat := (List.finRange 64).countP fun k => (s.window k).state == .free

/-- The number of FREE entries (R161). -/
def State.freeEntries (s : State) : Nat := (List.finRange 48).countP fun i => (s.entry i).state == .free

/-! ### Groups (R80) -/

/-- The slot holds a MEMBER window. -/
def Window.isMember (w : Window) : Bool := w.state != .free && w.role == .member

/-- The slot holds a HEAD window. -/
def Window.isHead (w : Window) : Bool := w.state != .free && w.role == .head

/-- The MEMBER slots from slot `k` upward without a gap, at most `fuel` of them. -/
def State.membersFrom (s : State) : Nat → Nat → List SlotId
  | 0, _ => []
  | fuel + 1, k =>
    if h : k < 64 then
      if (s.window ⟨k, h⟩).isMember then ⟨k, h⟩ :: s.membersFrom fuel (k + 1) else []
    else []

/-- The slots that act together with slot `h`: the group of a HEAD, head first, or the slot alone (R3, R80). -/
def State.unitSlots (s : State) (h : SlotId) : List SlotId :=
  if (s.window h).isHead then h :: s.membersFrom 64 (h.val + 1) else [h]

/-- The nearest slot at or below `k` that holds no MEMBER. -/
def State.ownerFrom (s : State) : Nat → SlotId
  | 0 => 0
  | k + 1 => if (s.window (Fin.ofNat 64 (k + 1))).isMember then s.ownerFrom k else Fin.ofNat 64 (k + 1)

/-- The slot whose lease and drain count govern slot `k`: the head of a MEMBER's group, or the slot itself (R3, R7). -/
def State.owner (s : State) (k : SlotId) : SlotId := s.ownerFrom k.val

/-! ### Claim entries -/

/-- A WAITING or HELD entry: counted against its agent's quota (R95). -/
def Entry.live (e : Entry) : Bool := e.state == .waiting || e.state == .held

/-- The number of HELD entries naming a slot. -/
def State.heldCount (s : State) (k : SlotId) : Nat :=
  (List.finRange 48).countP fun i => (s.entry i).state == .held && (s.entry i).slot == k

/-- The number of WAITING entries naming a slot: the length of its wait queue (R97). -/
def State.waitingCount (s : State) (k : SlotId) : Nat :=
  (List.finRange 48).countP fun i => (s.entry i).state == .waiting && (s.entry i).slot == k

/-- A HELD WRITE entry names the slot. -/
def State.writeHeld (s : State) (k : SlotId) : Bool :=
  (List.finRange 48).any fun i => (s.entry i).state == .held && (s.entry i).slot == k && (s.entry i).kind == .write

/-- A HELD entry names one of the slots. -/
def State.anyHeld (s : State) (slots : List SlotId) : Bool :=
  (List.finRange 48).any fun i => (s.entry i).state == .held && slots.contains (s.entry i).slot

/-- The agent's WAITING or HELD entry naming the slot; there is at most one (R99). -/
def State.findClaim (s : State) (a : AgentId) (k : SlotId) : Option EntryId :=
  (List.finRange 48).find? fun i => (s.entry i).live && (s.entry i).agent == a && (s.entry i).slot == k

/-- The agent holds an entry naming the slot whose kind passes the test. -/
def State.holds (s : State) (a : AgentId) (k : SlotId) (ok : ClaimKind → Bool) : Bool :=
  (List.finRange 48).any fun i =>
    (s.entry i).state == .held && (s.entry i).agent == a && (s.entry i).slot == k && ok (s.entry i).kind

/-- The lowest-numbered FREE entry (R100). -/
def State.lowestFreeEntry (s : State) : Option EntryId :=
  (List.finRange 48).find? fun i => (s.entry i).state == .free

/-- The head of a slot's wait queue: its WAITING entry with arrival number 1 (R97). -/
def State.queueHead (s : State) (k : SlotId) : Option EntryId :=
  (List.finRange 48).find? fun i =>
    (s.entry i).state == .waiting && (s.entry i).slot == k && (s.entry i).arrival == 1

def State.incInUse (s : State) (a : AgentId) : State :=
  s.putAgent a { s.agent a with inUse := (s.agent a).inUse + 1 }

def State.decInUse (s : State) (a : AgentId) : State :=
  s.putAgent a { s.agent a with inUse := (s.agent a).inUse - 1 }

/-- A WAITING entry with this arrival number leaves the slot's queue: those behind it move up by one (R97). -/
def State.closeQueue (s : State) (k : SlotId) (arrival : Nat) : State :=
  s.mapEntries fun e =>
    if e.state = .waiting ∧ e.slot = k ∧ arrival < e.arrival then { e with arrival := e.arrival - 1 } else e

/-- The countdown an entry takes from its window's hold limit: absent when the limit is 0 (R6). -/
def holdCountdown (limit : Nat) : Option Nat := if limit = 0 then none else some limit

/-- Making a FREE entry HELD for an immediate grant (R100). -/
def State.makeHeld (s : State) (i : EntryId) (a : AgentId) (k : SlotId) (kind : ClaimKind) : State :=
  (s.putEntry i
    { state := .held, agent := a, slot := k, kind := kind, stamp := s.timebase.stamp,
      countdown := holdCountdown (s.window k).holdLimit, arrival := 0, outcome := none,
      noticePending := false }).incInUse a

/-- Making a FREE entry WAITING at the tail of its window's queue (R97, R101). -/
def State.makeWaiting (s : State) (i : EntryId) (a : AgentId) (k : SlotId) (kind : ClaimKind) (wait : Nat) : State :=
  (s.putEntry i
    { state := .waiting, agent := a, slot := k, kind := kind, stamp := s.timebase.stamp, countdown := some wait,
      arrival := s.waitingCount k + 1, outcome := none, noticePending := false }).incInUse a

/-- The head of a queue is granted from it (R105). -/
def State.grantEntry (s : State) (i : EntryId) : State :=
  (s.closeQueue (s.entry i).slot (s.entry i).arrival).putEntry i
    { s.entry i with
      state := .held
      stamp := s.timebase.stamp
      countdown := holdCountdown (s.window (s.entry i).slot).holdLimit
      arrival := 0
      outcome := some .granted
      noticePending := true }

/-- The queue a live entry leaves behind when it goes: a WAITING entry's queue closes up (R97). -/
def State.vacate (s : State) (i : EntryId) : State :=
  if (s.entry i).state = .waiting then s.closeQueue (s.entry i).slot (s.entry i).arrival else s

/-- A live entry ends with an outcome and its notice pending (R107, R108, R114, R115; assumption 7). -/
def State.endEntry (s : State) (i : EntryId) (o : EOutcome) : State :=
  ((s.vacate i).putEntry i
    { s.entry i with
      state := .ended, countdown := none, arrival := 0, outcome := some o, noticePending := true }).decInUse (s.entry i).agent

/-- An entry becomes FREE with no notice; a live one leaves its agent's claims in use (R96, R111, R112, R133). -/
def State.freeEntry (s : State) (i : EntryId) : State :=
  if (s.entry i).live then ((s.vacate i).putEntry i Entry.free).decInUse (s.entry i).agent
  else s.putEntry i Entry.free

/-- Every entry that passes the test ends with the outcome. -/
def State.endWhere (s : State) (p : Entry → Bool) (o : EOutcome) : State :=
  (List.finRange 48).foldl (fun t i => if p (t.entry i) then t.endEntry i o else t) s

/-! ### Grant passes (R103) -/

/-- A grant pass over an OPEN window's queue, granting at most `fuel` entries. -/
def State.passLoop (k : SlotId) : Nat → State → State
  | 0, s => s
  | fuel + 1, s =>
    match s.queueHead k with
    | none => s
    | some i =>
      match (s.entry i).kind with
      | .write => if s.heldCount k = 0 then s.grantEntry i else s
      | .read =>
        if s.writeHeld k = false ∧ s.heldCount k < (s.window k).claimLimit then
          State.passLoop k fuel (s.grantEntry i)
        else s

/-- A grant pass: it grants only while the window is OPEN (R103). -/
def State.grantPass (s : State) (k : SlotId) : State :=
  if (s.window k).state = .opened then State.passLoop k 48 s else s

/-! ### State changes of windows and groups -/

/-- An OPEN window becomes FROZEN; any other is left as it is (R22, R86). -/
def Window.freeze (w : Window) : Window := if w.state = .opened then { w with state := .frozen } else w

/-- Every OPEN slot of the unit becomes FROZEN (R71, R86). -/
def State.freezeUnit (s : State) (h : SlotId) : State := s.modifyWindows (s.unitSlots h) Window.freeze

/-- The slots become FREE, each with its whole record cleared (R126). -/
def State.clearSlots (s : State) (slots : List SlotId) : State := s.modifyWindows slots fun _ => Window.free

/-- The WAITING and HELD entries naming the slots end as WINDOW_GONE (R108). -/
def State.endClaims (s : State) (slots : List SlotId) : State :=
  s.endWhere (fun e => e.live && slots.contains e.slot) .windowGone

/-- The WAITING entries naming the slots end as WINDOW_GONE (R107). -/
def State.endWaits (s : State) (slots : List SlotId) : State :=
  s.endWhere (fun e => e.state == .waiting && slots.contains e.slot) .windowGone

/-- The unit of `h` goes to DRAINING: its WAITING entries end, and the drain count is loaded at the head (R107, R122). -/
def State.drainUnit (s : State) (h : SlotId) : State :=
  ((s.endWaits (s.unitSlots h)).modifyWindows (s.unitSlots h) fun w => { w with state := .draining }).modifyWindow h
    fun w => { w with drainCount := s.drainLimit }

/-- The unit of `h` becomes FREE and its remaining WAITING and HELD entries end as WINDOW_GONE (R108, R126). -/
def State.goneUnit (s : State) (h : SlotId) : State := (s.endClaims (s.unitSlots h)).clearSlots (s.unitSlots h)

/-- Retirement of the unit of `h` (R90, R121): OPEN or FROZEN with a HELD entry and no FORCE, it drains; otherwise it
becomes FREE. -/
def State.retireUnit (s : State) (h : SlotId) (force : Bool) : State :=
  if ((s.window h).state = .opened ∨ (s.window h).state = .frozen) ∧ s.anyHeld (s.unitSlots h) = true ∧ force = false then
    s.drainUnit h
  else s.goneUnit h

/-- A HELD or WAITING entry naming slot `k` has gone: an OPEN window runs a grant pass, and a DRAINING window or group
without a HELD entry becomes FREE (R104, R109). -/
def State.afterLoss (s : State) (k : SlotId) : State :=
  match (s.window k).state with
  | .opened => s.grantPass k
  | .draining =>
    if s.anyHeld (s.unitSlots (s.owner k)) then s else s.clearSlots (s.unitSlots (s.owner k))
  | _ => s

/-- The expiry of the lease that slot `h` owns, its count having reached 0: the action, the expired set and EXPIRED (R69
to R72, R88). -/
def State.expireLease (s : State) (h : SlotId) : State :=
  let acted :=
    match (s.window h).expiryAction with
    | .reload => (s.modifyWindow h fun w => { w with leaseCount := w.leaseReload }).flipToggles h
    | .freeze => s.freezeUnit h
    | .retire => s.retireUnit h false
  (acted.addExpired h).raise .expired

/-- A drain count has reached 0: the unit is forced FREE, its HELD entries end as WINDOW_GONE, DRAIN_FORCED is raised
(R91, R124). -/
def State.forceDrained (s : State) (h : SlotId) : State := (s.goneUnit h).raise .drainForced

/-! ### Activation (R20, R84) -/

/-- The activation of one slot under the governing lease mode. The lease count is loaded only where the slot's own mode is
USES, so not on a member. -/
def Window.activate (mode : LeaseMode) (w : Window) : Window :=
  let mapped := { w with shadowMap := w.activeMap, shadowPending := false, drainCount := 0 }
  let placed :=
    match mapped.walk with
    | none => mapped
    | some k => { mapped with base := k.start, stepCount := 0, overrun := false }
  match mode with
  | .timed => { placed with state := .armed }
  | .uses =>
    { placed with
      state := .opened
      leaseCount := if placed.leaseMode = .uses then placed.leaseReload else placed.leaseCount
      idleCount := placed.idleLimit.getD 0 }
  | .none => { placed with state := .opened, idleCount := placed.idleLimit.getD 0 }

/-- Every slot of the unit of `h` is activated, as the head's lease mode says. -/
def State.activateUnit (s : State) (h : SlotId) : State :=
  s.modifyWindows (s.unitSlots h) (Window.activate (s.window h).leaseMode)

/-! ### Window fields: the checks of R12 and R14, and the loading of groups -/

/-- The BAD_FIELD pass of R12: every code defined and every range of R14 kept, for the groups that are present. -/
def FieldBlock.fieldsOk (b : FieldBlock) : Bool :=
  (6 ≤ b.granule.toNat && b.granule.toNat ≤ 24) && (1 ≤ b.span.toNat && b.span.toNat ≤ 256)
    && decide (b.base.toNat < Config.addressSpace)
    && decide (b.access.toNat ≤ 1) && (List.finRange 8).all (fun c => b.rightCode c != 3) && b.laneMask != 0
    && (1 ≤ b.claimLimit.toNat && b.claimLimit.toNat ≤ 15)
    && (match leaseModeOf b.leaseMode with
      | none => false
      | some .none => true
      | some _ => 1 ≤ b.leaseReload.toNat && (expiryActionOf b.expiryAction).isSome)
    && (!b.idlePresent || 1 ≤ b.idleLimit.toNat)
    && (!b.walkPresent
      || (decide (b.walkStart.toNat < Config.addressSpace) && b.granule.toNat ≤ b.stride.toNat && b.stride.toNat ≤ 28
        && 1 ≤ b.stepLimit.toNat && b.stepLimit.toNat ≤ 4095))
    && b.flags.toNat / 32 == 0

/-- The ALIGN pass of R12. -/
def FieldBlock.aligned (b : FieldBlock) : Bool :=
  b.base.toNat % 2 ^ b.granule.toNat == 0 && (!b.walkPresent || b.walkStart.toNat % 2 ^ b.granule.toNat == 0)

/-- The BAD_SPAN pass of R12. -/
def FieldBlock.spanOk (b : FieldBlock) : Bool :=
  let bytes := b.span.toNat * 2 ^ b.granule.toNat
  decide (bytes ≤ Config.maxSpanBytes) && decide (b.base.toNat + bytes ≤ Config.addressSpace)
    && (!b.walkPresent || decide (b.walkStart.toNat + bytes ≤ Config.addressSpace))

/-- The field checks of R12 in their three passes: the reason of the first pass that fails. -/
def FieldBlock.check (b : FieldBlock) : Option Reason :=
  if b.fieldsOk = false then some .badField
  else if b.aligned = false then some .align
  else if b.spanOk = false then some .badSpan
  else none

/-- Loading the GEOMETRY group (R4). -/
def Window.loadGeometry (b : FieldBlock) (w : Window) : Window :=
  { w with base := b.base.toNat, granule := b.granule.toNat, span := b.span.toNat }

/-- Loading the ACCESS group (R5). -/
def Window.loadAccess (b : FieldBlock) (w : Window) : Window :=
  { w with
    access := if b.access.toNat = 1 then .claimed else .openAccess
    rights := tabulate 8 fun c => rightOf (b.rightCode c)
    laneMask := b.laneMask }

/-- Loading the CLAIMS group (R6). -/
def Window.loadClaims (b : FieldBlock) (w : Window) : Window :=
  { w with claimLimit := b.claimLimit.toNat, holdLimit := b.holdLimit.toNat, agentRenew := b.agentRenew }

/-- Loading the LEASE group (R7). With mode NONE a reload carried as 0 is loaded as 1, and an undefined action as RETIRE
(R12). -/
def Window.loadLease (b : FieldBlock) (w : Window) : Window :=
  { w with
    leaseMode := (leaseModeOf b.leaseMode).getD .none
    leaseReload := if b.leaseReload.toNat = 0 then 1 else b.leaseReload.toNat
    expiryAction := (expiryActionOf b.expiryAction).getD .retire }

/-- Loading the IDLE group (R8). -/
def Window.loadIdle (b : FieldBlock) (w : Window) : Window :=
  { w with idleLimit := if b.idlePresent then some b.idleLimit.toNat else none }

/-- Loading the WALK group (R9). -/
def Window.loadWalk (b : FieldBlock) (w : Window) : Window :=
  { w with
    walk :=
      if b.walkPresent then
        some { pair := b.pair, start := b.walkStart.toNat, stride := b.stride.toNat, stepLimit := b.stepLimit.toNat,
               commitAtRestart := b.commitAtRestart }
      else none }

/-- The record an accepted WINDOW CREATE loads (R15). -/
def Window.create (role : Role) (b : FieldBlock) : Window :=
  { (((((Window.free.loadGeometry b).loadAccess b).loadClaims b).loadLease b).loadIdle b).loadWalk b with
    state := .staged
    role := role
    leaseMode := if role = .member then .none else (leaseModeOf b.leaseMode).getD .none
    activeMap := fullMap b.span.toNat }

/-- The group checks of WINDOW CREATE for a MEMBER at slot `k` (R82). -/
def State.memberCheck (s : State) (k : SlotId) : Option Reason :=
  if k.val = 0 then some .group
  else
    let below : SlotId := Fin.ofNat 64 (k.val - 1)
    if !((s.window below).isMember || (s.window below).isHead) then some .group
    else if (s.window (s.owner below)).state ≠ .staged then some .state
    else if below.val + 1 = (s.owner below).val + Config.maxGroupSlots then some .group
    else none

/-- The checks of WINDOW CREATE in their order (R13): the slot and role to create, or the reason of the first that
fails. -/
def State.createCheck (s : State) (slot role : Byte) (b : FieldBlock) : Except Reason (SlotId × Role) :=
  match slotOf slot with
  | none => .error .badSlot
  | some k =>
    match roleOf role with
    | none => .error .badField
    | some r =>
      if (s.window k).state ≠ .free then .error .slotBusy
      else
        match (if r = .member then s.memberCheck k else none) with
        | some why => .error why
        | none =>
          if r = .member ∧ (leaseModeOf b.leaseMode = some .timed ∨ leaseModeOf b.leaseMode = some .uses) then
            .error .group
          else
            match b.check with
            | some why => .error why
            | none => .ok (k, r)

/-! ### Agent records (R131 to R133) -/

/-- The operand checks of AGENT SET in their order: the agent and the record to load, or the reason (R131). -/
def State.agentCheck (s : State) (agent enabled cls lane quota : Byte) : Except Reason (AgentId × AgentRecord) :=
  match agentOf agent with
  | none => .error .badAgent
  | some a =>
    if h : enabled.toNat ≤ 1 ∧ cls.toNat < 8 ∧ lane.toNat < 4 ∧ quota.toNat ≤ 8 then
      let r : AgentRecord :=
        { enabled := enabled == 1, cls := ⟨cls.toNat, h.2.1⟩, lane := ⟨lane.toNat, h.2.2.1⟩, quota := quota.toNat,
          inUse := (s.agent a).inUse }
      let used := (List.finRange 48).any fun i => (s.entry i).state != .free && (s.entry i).agent == a
      if r.enabled = true
          ∧ (((r.cls ≠ (s.agent a).cls ∨ r.lane ≠ (s.agent a).lane) ∧ used = true) ∨ r.quota < (s.agent a).inUse) then
        .error .claimsHeld
      else .ok (a, r)
    else .error .badField

/-- The slots on which an agent has a WAITING or HELD entry. -/
def State.claimedSlots (s : State) (a : AgentId) : List SlotId :=
  (List.finRange 64).filter fun k => (s.findClaim a k).isSome

/-- Freeing every entry of an agent, whatever its state, with no notice (R133). -/
def State.freeAgentEntries (s : State) (a : AgentId) : State :=
  (List.finRange 48).foldl
    (fun t i => if (t.entry i).state ≠ .free ∧ (t.entry i).agent = a then t.freeEntry i else t) s

/-- Loading an agent record: enabled, its four fields (R132); disabled, its entries are freed first, then each window
that lost a WAITING or HELD entry runs its pass or, drained of its last holder, becomes FREE (R133). -/
def State.loadAgent (s : State) (a : AgentId) (r : AgentRecord) : State :=
  if r.enabled then s.putAgent a { r with inUse := (s.agent a).inUse }
  else (s.claimedSlots a).foldl State.afterLoss ((s.freeAgentEntries a).putAgent a { r with inUse := 0 })

/-! ### Table Arbiter (R142) -/

/-- A requester is waiting: a WAITING lane, or the port holding a command that goes through the arbiter. -/
def State.requesting (s : State) (q : Requester) : Bool :=
  if h : q.val < 4 then (s.lane ⟨q.val, h⟩).state == .waiting
  else match s.port.held with
    | none => false
    | some c => !c.direct

/-- The requester the arbiter grants next: the first waiting one in circular order from the pointer. -/
def State.arbiterChoice (s : State) : Option Requester :=
  ((List.finRange 5).map fun j => s.pointer + j).find? s.requesting

/-- The pointer after a grant names the requester that follows the one granted. -/
def State.granted (s : State) (q : Requester) : State := { s with pointer := q + 1 }

/-- The management port's place among the requesters. -/
def portRequester : Requester := 4

/-- A lane's place among the requesters. -/
def laneRequester (l : LaneId) : Requester := Fin.castSucc l

/-! ### Taking a management command (R158, R159) -/

/-- What the owning block replies: a DONE body, or a reason. -/
inductive Reply where
  | done (body : List Byte)
  | refused (why : Reason)
  deriving DecidableEq, Repr

/-- The response of a reply (R159): a REFUSED response has no body. -/
def Reply.response (code : Byte) : Reply → Response
  | .done body => { code := code, reason := none, body := body }
  | .refused why => { code := code, reason := some why, body := [] }

/-- Placing a response in the one-deep buffer (R159). A response placed after the shift-out copy of a READ RESPONSE frame
is noted for its end (R157). -/
def Port.place (p : Port) (r : Response) : Port :=
  { p with
    buffer := some r
    respOverwritten := p.respOverwritten || p.respAvail
    respAvail := true
    placedSinceCopy := p.placedSinceCopy || p.copied }

/-- The block that owns the command takes it now: RST_N is high, the port holds exactly this command, and the arbiter's
choice is the port unless the command goes direct (R142, R158; assumption 15). -/
def State.commandDue (s : State) (c : Instr) : Bool :=
  !s.rstLow && s.port.held == some c && (c.direct || s.arbiterChoice == some portRequester)

/-- The state in which the owning block takes the command: the arbiter's pointer has moved past the port, unless the
command goes direct. -/
def State.commandTaken (s : State) (c : Instr) : State := if c.direct then s else s.granted portRequester

/-- Completion of a command: its response is placed and the port returns to IDLE (R158). -/
def State.complete (s : State) (code : Byte) (r : Reply) : State :=
  { s with port := { s.port.place (r.response code) with held := none } }

/-- A management command taken as one event. Where it is not due, it cannot occur, and nothing changes (assumption 2). -/
def takeCommand (code : Byte) (c : Instr) (body : State → State × Reply) (s : State) : Result :=
  if s.commandDue c then
    let taken := body (s.commandTaken c)
    .next (taken.1.complete code taken.2)
  else .next s

/-- A refused command changes nothing. -/
def State.refuse (s : State) (why : Reason) : State × Reply := (s, .refused why)

/-- The reply of a command that names a slot: BAD_SLOT when the slot number is above 63 (R1). -/
def State.withSlot (s : State) (slot : Byte) (f : SlotId → State × Reply) : State × Reply :=
  match slotOf slot with
  | none => s.refuse .badSlot
  | some k => f k

/-! ### Lane requests (R137) -/

/-- The request names a slot in place of an address: CLAIM_READ, CLAIM_WRITE, RELEASE and RENEW (R152). -/
def Request.namesSlot (r : Request) : Bool := 3 ≤ r.kind.toNat && r.kind.toNat ≤ 6

/-- Handing a refused lane request to the refusal report (R152). -/
def State.capture (s : State) (l : LaneId) (r : Request) (why : Reason) : State :=
  match s.attn.report with
  | some _ => { s with attn := { s.attn with more := true } }
  | none =>
    State.raise
      { s with
        attn :=
          { s.attn with
            report :=
              some { lane := l, agent := r.agent, kind := r.kind, tag := r.tag,
                     locator := if r.namesSlot then r.slot.setWidth 36 else r.address,
                     length := if r.namesSlot then 0 else r.length, reason := why, stamp := s.timebase.stamp } } }
      .refusal

/-- An answer enters the lane's answer holder; the request holder empties and the lane is ANSWERED (R137). -/
def State.answerLane (s : State) (l : LaneId) (a : Answer) : State :=
  s.putLane l { s.lane l with state := .answered, request := none, answer := some a }

/-- The answer to a request, with its kind and tag echoed and every optional field absent (R171). -/
def Request.answer (r : Request) (o : AnswerOutcome) : Answer :=
  { kind := r.kind, tag := r.tag, outcome := o, reason := none, slot := none, entry := none, laneMask := none }

/-- A refused request: captured in the refusal report unless NOT_READY, and answered REFUSED (R56, R102). -/
def State.refuseRequest (s : State) (l : LaneId) (r : Request) (why : Reason) (slot : Option Byte) : State :=
  (if why = .notReady then s else s.capture l r why).answerLane l
    { r.answer .refused with reason := some why, slot := slot }

/-- The lane's request is taken now: RST_N is high, the lane is WAITING with exactly this request, and the arbiter grants
it (R142; assumption 16). -/
def State.requestDue (s : State) (l : LaneId) (r : Request) : Bool :=
  !s.rstLow && (s.lane l).state == .waiting && (s.lane l).request == some r
    && s.arbiterChoice == some (laneRequester l)

/-- A lane request of the row's kind taken as one event. Where it is not due, it cannot occur, and nothing changes
(assumption 2). -/
def takeRequest (c : Instr) (l : LaneId) (r : Request) (body : State → State) (s : State) : Result :=
  if c.wf && s.requestDue l r then .next (body (s.granted (laneRequester l))) else .next s

/-- The checks NOT_READY, AGENT_OFF and WRONG_LANE that every owning block makes first (R44, R137). -/
def State.laneCheck (s : State) (l : LaneId) (r : Request) : Option Reason :=
  if s.service = .loading then some .notReady
  else if (s.agent r.agent).enabled = false then some .agentOff
  else if (s.agent r.agent).lane ≠ l then some .wrongLane
  else none

/-- The rights allow an access or claim of the kind: READ needs READ or READ_WRITE, WRITE needs READ_WRITE (R5). -/
def Right.allows (x : Right) : ClaimKind → Bool
  | .read => x == .read || x == .readWrite
  | .write => x == .readWrite

/-- An event that does not pass the port or a lane: when it can occur, it has its effect, and otherwise nothing changes
(assumption 2). No event of the part occurs while RST_N is low (R162). -/
def takeEvent (can : Bool) (effect : State) (s : State) : Result :=
  if !s.rstLow && can then .next effect else .next s

end Sys2Proof.Machine
end

