-- ==== Sys2Proof/Machine/Agents.lean ====
section
/-! DEFINITION. AGENT SET and AGENT QUERY (R130 to R135). -/

namespace Sys2Proof.Machine

/-- The five bytes of an agent record in a DONE body (12.3). -/
def AgentRecord.body (r : AgentRecord) : List Byte :=
  [yesNo r.enabled, BitVec.ofNat 8 r.cls.val, BitVec.ofNat 8 r.lane.val, BitVec.ofNat 8 r.quota, BitVec.ofNat 8 r.inUse]

/-- AGENT SET: checked by R131, loaded by R132 or R133, and answered with the record as now loaded. -/
def agentSetReply (agent enabled cls lane quota : Byte) (s : State) : State × Reply :=
  match s.agentCheck agent enabled cls lane quota with
  | .error why => s.refuse why
  | .ok (a, r) => (s.loadAgent a r, .done ((s.loadAgent a r).agent a).body)

/-- AGENT_SET. -/
def execAgentSet (agent enabled cls lane quota : Byte) (s : State) : Result :=
  takeCommand 0x10 (.agentSet agent enabled cls lane quota) (agentSetReply agent enabled cls lane quota) s

/-- The number of an agent's ENDED entries (R135). -/
def State.endedCount (s : State) (a : AgentId) : Nat :=
  (List.finRange 48).countP fun i => (s.entry i).state == .ended && (s.entry i).agent == a

/-- AGENT QUERY: the record and the number of ENDED entries; it changes nothing (R135). -/
def agentQueryReply (agent : Byte) (s : State) : State × Reply :=
  match agentOf agent with
  | none => s.refuse .badAgent
  | some a => (s, .done ((s.agent a).body ++ [BitVec.ofNat 8 (s.endedCount a)]))

/-- AGENT_QUERY. -/
def execAgentQuery (agent : Byte) (s : State) : Result :=
  takeCommand 0x11 (.agentQuery agent) (agentQueryReply agent) s

end Sys2Proof.Machine
end

