-- ==== Sys2Proof/Machine/AttentionUnit.lean ====
section
/-! DEFINITION. The Attention Unit's commands: ATTENTION ENABLE, ACK, READ EXPIRED, REPORT READ and REPORT CLEAR (R149 to
R153). -/

namespace Sys2Proof.Machine

/-- ATTENTION ENABLE replaces the enable set (R150). -/
def attentionEnableReply (enables : Byte) (s : State) : State × Reply :=
  ({ s with attn := { s.attn with enables := enables } }, .done [enables, s.attn.causes])

/-- ATTENTION_ENABLE. -/
def execAttentionEnable (enables : Byte) (s : State) : Result :=
  takeCommand 0x50 (.attentionEnable enables) (attentionEnableReply enables) s

/-- ACK removes the named causes and the named slots, each from its own set (R150). -/
def ackReply (causes : Byte) (slots : BitVec 64) (s : State) : State × Reply :=
  let a := { s.attn with causes := s.attn.causes &&& ~~~causes, expired := s.attn.expired &&& ~~~slots }
  ({ s with attn := a }, .done [a.causes, BitVec.ofNat 8 a.expiredCount])

/-- ACK. -/
def execAck (causes : Byte) (slots : BitVec 64) (s : State) : Result :=
  takeCommand 0x51 (.ack causes slots) (ackReply causes slots) s

/-- READ EXPIRED returns the expired set and changes nothing (R151). -/
def readExpiredReply (s : State) : State × Reply := (s, .done (bytesOf 8 s.attn.expired.toNat))

/-- READ_EXPIRED. -/
def execReadExpired (s : State) : Result := takeCommand 0x52 .readExpired readExpiredReply s

/-- The eighteen bytes of REPORT READ; while EMPTY, every byte after "more" is 0 (R153, 12.3). -/
def Attention.reportBody (a : Attention) : List Byte :=
  match a.report with
  | none => [0, yesNo a.more] ++ List.replicate 16 0
  | some c =>
    [1, yesNo a.more, BitVec.ofNat 8 c.lane.val, BitVec.ofNat 8 c.agent.val, c.kind.setWidth 8, c.tag.setWidth 8]
      ++ bytesOf 5 c.locator.toNat ++ bytesOf 2 c.length.toNat ++ [BitVec.ofNat 8 c.reason.code]
      ++ bytesOf 4 c.stamp.toNat

/-- REPORT READ changes nothing (R153). -/
def reportReadReply (s : State) : State × Reply := (s, .done s.attn.reportBody)

/-- REPORT_READ. -/
def execReportRead (s : State) : Result := takeCommand 0x53 .reportRead reportReadReply s

/-- REPORT CLEAR makes the report EMPTY and clears "more"; REFUSAL stays (R153). -/
def reportClearReply (s : State) : State × Reply :=
  ({ s with attn := { s.attn with report := none, more := false } }, .done [])

/-- REPORT_CLEAR. -/
def execReportClear (s : State) : Result := takeCommand 0x54 .reportClear reportClearReply s

end Sys2Proof.Machine
end

