-- ==== Sys2Proof/Machine/Claims.lean ====
section
/-! DEFINITION. The lane requests on claims: CLAIM_READ, CLAIM_WRITE (R98 to R102) and RELEASE (R110 to R112). -/

namespace Sys2Proof.Machine

/-! ### Claim requests -/

/-- The checks of a claim request in their order: the reason, and whether the answer carries the slot (R102), or the slot
claimed (R98, R99). -/
def State.claimCheck (s : State) (l : LaneId) (r : Request) (kind : ClaimKind) : Except (Reason × Bool) SlotId :=
  match s.laneCheck l r with
  | some why => .error (why, false)
  | none =>
    match slotOf r.slot with
    | none => .error (.noWindow, false)
    | some k =>
      match (s.window k).state with
      | .free | .staged | .armed => .error (.noWindow, false)
      | .frozen => .error (.frozen, true)
      | .draining => .error (.retiring, true)
      | .opened =>
        if (s.window k).rights[(s.agent r.agent).cls].allows kind = false then .error (.noRight, true)
        else if (s.findClaim r.agent k).isSome = true then .error (.duplicate, true)
        else if (s.agent r.agent).quota ≤ (s.agent r.agent).inUse then .error (.quota, true)
        else .ok k

/-- The window can take a claim of the kind at once (R100). -/
def State.grantableNow (s : State) (k : SlotId) (kind : ClaimKind) : Bool :=
  s.waitingCount k == 0
    && match kind with
      | .read => !s.writeHeld k && decide (s.heldCount k < (s.window k).claimLimit)
      | .write => s.heldCount k == 0

/-- The decision of a claim request that has passed its checks: granted now, BUSY, queued, or refused for want of a FREE
entry (R100, R101). -/
def State.decideClaim (s : State) (l : LaneId) (r : Request) (kind : ClaimKind) (k : SlotId) : State :=
  if s.grantableNow k kind = false ∧ r.waitLimit = 0 then
    s.answerLane l { r.answer .busy with slot := some r.slot }
  else
    match s.lowestFreeEntry with
    | none => s.refuseRequest l r .tableFull (some r.slot)
    | some i =>
      if s.grantableNow k kind then
        (s.makeHeld i r.agent k kind).answerLane l { r.answer .granted with slot := some r.slot, entry := some i }
      else
        (s.makeWaiting i r.agent k kind r.waitLimit.toNat).answerLane l
          { r.answer .queued with slot := some r.slot, entry := some i }

/-- A claim request taken as one event (R98). -/
def State.claim (s : State) (l : LaneId) (r : Request) (kind : ClaimKind) : State :=
  match s.claimCheck l r kind with
  | .error (why, carries) => s.refuseRequest l r why (if carries then some r.slot else none)
  | .ok k => s.decideClaim l r kind k

/-- CLAIM_READ. -/
def execClaimRead (l : LaneId) (r : Request) (s : State) : Result :=
  takeRequest (.claimRead l r) l r (fun t => t.claim l r .read) s

/-- CLAIM_WRITE. -/
def execClaimWrite (l : LaneId) (r : Request) (s : State) : Result :=
  takeRequest (.claimWrite l r) l r (fun t => t.claim l r .write) s

/-! ### Release and withdrawal -/

/-- The release of the HELD entry `i` on slot `k`: last hold, entry FREE, then a grant pass on an OPEN window or the
freeing of a DRAINING one (R111). -/
def State.releaseHeld (s : State) (i : EntryId) (k : SlotId) : State :=
  (((s.modifyWindow k fun w => { w with lastHold := some (s.timebase.stamp - (s.entry i).stamp) }).freeEntry i)).afterLoss k

/-- The withdrawal of the WAITING entry `i` on slot `k`: it leaves its queue, and when it was the head of an OPEN window's
queue a grant pass is run (R112). -/
def State.withdraw (s : State) (i : EntryId) (k : SlotId) : State :=
  if (s.entry i).arrival = 1 then (s.freeEntry i).grantPass k else s.freeEntry i

/-- A RELEASE taken as one event (R110). -/
def State.releaseOnLane (s : State) (l : LaneId) (r : Request) : State :=
  match s.laneCheck l r with
  | some why => s.refuseRequest l r why none
  | none =>
    match (slotOf r.slot).bind fun k => (s.findClaim r.agent k).map fun i => (k, i) with
    | none => s.refuseRequest l r .notHeld (some r.slot)
    | some (k, i) =>
      if (s.entry i).state = .held then
        (s.releaseHeld i k).answerLane l { r.answer .released with slot := some r.slot, entry := some i }
      else (s.withdraw i k).answerLane l { r.answer .withdrawn with slot := some r.slot, entry := some i }

/-- RELEASE. -/
def execRelease (l : LaneId) (r : Request) (s : State) : Result :=
  takeRequest (.release l r) l r (fun t => t.releaseOnLane l r) s

end Sys2Proof.Machine
end

