-- ==== Sys2Proof/Machine/Gates.lean ====
section
/-! DEFINITION. GATE BIND and GATES SET (R144 to R148). -/

namespace Sys2Proof.Machine

/-- The DONE body of GATE BIND: binding present, slot, polarity, mode, unbound level, pin level (12.3). An unbound gate's
slot byte is 0 (assumption 8). -/
def Gate.body (g : Gate) : List Byte :=
  [yesNo g.binding.isSome, BitVec.ofNat 8 ((g.binding.map Fin.val).getD 0), g.polarity.code, g.mode.code,
   yesNo g.unboundHigh, yesNo g.pinHigh]

/-- A gate as an accepted GATE BIND leaves it: bound, with its phase set from the slot's state, or unbound at the level
its pin drives at that moment (R146). -/
def Gate.rebind (g : Gate) (target : Option SlotId) (polarity : Polarity) (mode : GateMode) (slotOpen : Bool) : Gate :=
  match target with
  | some k =>
    { g with binding := some k, polarity := polarity, mode := mode, active := mode == .level && slotOpen }
  | none =>
    { binding := none, polarity := polarity, mode := mode, unboundHigh := g.pinHigh, active := false }

/-- GATE BIND (R146). -/
def gateBindReply (gate bind slot polarity mode : Byte) (s : State) : State × Reply :=
  match gateOf gate with
  | none => s.refuse .badField
  | some g =>
    if 1 < bind.toNat ∨ 1 < polarity.toNat ∨ 1 < mode.toNat then s.refuse .badField
    else
      let pol : Polarity := if polarity = 0 then .activeHigh else .activeLow
      let md : GateMode := if mode = 0 then .level else .toggle
      if bind = 1 then
        match slotOf slot with
        | none => s.refuse .badSlot
        | some k =>
          let x := (s.gate g).rebind (some k) pol md ((s.window k).state == .opened)
          (s.putGate g x, .done x.body)
      else
        let x := (s.gate g).rebind none pol md false
        (s.putGate g x, .done x.body)

/-- GATE_BIND. -/
def execGateBind (gate bind slot polarity mode : Byte) (s : State) : Result :=
  takeCommand 0x48 (.gateBind gate bind slot polarity mode) (gateBindReply gate bind slot polarity mode) s

/-- GATES SET loads the unbound level of each unbound gate (R147). -/
def gatesSetReply (levels : Byte) (s : State) : State × Reply :=
  let gates := tabulate 8 fun g =>
    if (s.gate g).binding = none then { s.gate g with unboundHigh := levels.getLsbD g.val } else s.gate g
  ({ s with gates := gates }, .done [pinLevels gates])

/-- GATES_SET. -/
def execGatesSet (levels : Byte) (s : State) : Result := takeCommand 0x49 (.gatesSet levels) (gatesSetReply levels) s

end Sys2Proof.Machine
end

