-- ==== Sys2Proof/Machine/Lanes.lean ====
section
/-! DEFINITION. The life of a request on a lane and of a message on its answer channel: REQUEST_WORD, REQUEST_TAKE,
REQUEST_WITHDRAW, BAD_KIND, ANSWER_OFFER, NOTICE_DELIVERY and MESSAGE_TAKEN (R136 to R140, R116, R117). -/

namespace Sys2Proof.Machine

/-- A lane takes the words its bridge offers while it is IDLE, and none while it is WAITING or ANSWERED (R136). -/
def Lane.takesWords (x : Lane) : Bool := x.state == .idle

/-- The level of Ln_RQT, given whether the bridge holds Ln_RQV high with a request word: high for each word offered while the
lane is IDLE, low while it is not (R136, 12.5); low while RST_N is low, when no word is taken (assumption 29). -/
def State.requestTakenHigh (s : State) (l : LaneId) (validHigh : Bool) : Bool :=
  !s.rstLow && validHigh && (s.lane l).takesWords

/-- REQUEST_WORD: an IDLE lane at word position 0 or 1 takes the word (R136). -/
def execRequestWord (l : LaneId) (word : Word32) (s : State) : Result :=
  takeEvent ((s.lane l).takesWords && decide ((s.lane l).words.length < 2))
    (s.putLane l { s.lane l with words := (s.lane l).words ++ [word] }) s

/-- The lane with word 2 taken: the three words become the request, and the lane is WAITING (R136). -/
def Lane.take (x : Lane) (word : Word32) : Lane :=
  { x with
    state := .waiting
    words := []
    request := some (decodeRequest (x.words.getD 0 0) (x.words.getD 1 0) word) }

/-- REQUEST_TAKE: an IDLE lane at word position 2 takes the word (R136). -/
def execRequestTake (l : LaneId) (word : Word32) (s : State) : Result :=
  takeEvent ((s.lane l).takesWords && (s.lane l).words.length == 2) (s.putLane l ((s.lane l).take word)) s

/-- REQUEST_WITHDRAW: the words taken are discarded and the position returns to 0 (R136). -/
def execRequestWithdraw (l : LaneId) (s : State) : Result :=
  takeEvent ((s.lane l).state == .idle && !(s.lane l).words.isEmpty) (s.putLane l { s.lane l with words := [] }) s

/-- The lane's own answer to a request of an undefined kind (R137). -/
def State.answerBadKind (s : State) (l : LaneId) (r : Request) : State :=
  s.refuseRequest l r (if s.service = .loading then .notReady else .badKind) none

/-- BAD_KIND. -/
def execBadKind (l : LaneId) (r : Request) (s : State) : Result :=
  takeRequest (.badKind l r) l r (fun t => t.answerBadKind l r) s

/-- ANSWER_OFFER: with the channel FREE and an answer in the holder, the answer is offered (R138). -/
def execAnswerOffer (l : LaneId) (s : State) : Result :=
  takeEvent ((s.lane l).channel == .free && (s.lane l).answer.isSome)
    (s.putLane l { s.lane l with channel := .answer }) s

/-- The notice a lane delivers next: the lowest-numbered entry with its notice pending whose agent's record names the
lane (R139). -/
def State.nextNotice (s : State) (l : LaneId) : Option EntryId :=
  (List.finRange 48).find? fun i => (s.entry i).noticePending && (s.agent (s.entry i).agent).lane == l

/-- The notice formed from an entry (R139). An entry with a notice pending has an outcome (R116). -/
def Entry.notice (i : EntryId) (e : Entry) : Notice :=
  { entry := i, slot := e.slot, kind := e.kind, outcome := e.outcome.getD .granted }

/-- The entry after its notice is delivered: an ENDED one becomes FREE, any other keeps its state (R117). -/
def Entry.delivered (e : Entry) : Entry :=
  if e.state = .ended then Entry.free else { e with noticePending := false }

/-- The delivery of entry `i`'s notice on lane `l` (R117, R139). -/
def State.deliver (s : State) (l : LaneId) (i : EntryId) : State :=
  (s.putLane l { s.lane l with channel := .notice (Entry.notice i (s.entry i)) }).putEntry i (s.entry i).delivered

/-- NOTICE_DELIVERY: with the channel FREE and no answer in the holder, the lane delivers its next notice (R138, R139). -/
def execNoticeDelivery (l : LaneId) (s : State) : Result :=
  match s.nextNotice l with
  | none => .next s
  | some i => takeEvent ((s.lane l).channel == .free && (s.lane l).answer == none) (s.deliver l i) s

/-- The lane after the bridge has taken the message offered: after the answer, the holder is empty and the lane IDLE
(R138). -/
def Lane.messageTaken (x : Lane) : Lane :=
  match x.channel with
  | .free => x
  | .answer => { x with channel := .free, answer := none, state := .idle }
  | .notice _ => { x with channel := .free }

/-- MESSAGE_TAKEN. -/
def execMessageTaken (l : LaneId) (s : State) : Result :=
  takeEvent ((s.lane l).channel != .free) (s.putLane l (s.lane l).messageTaken) s

end Sys2Proof.Machine
end

