-- ==== Sys2Proof/Machine/Windows.lean ====
section
/-! DEFINITION. The window commands: WINDOW CREATE, MODIFY and QUERY, ACTIVATE, DISARM, FREEZE, THAW, RENEW and RETIRE
(R12 to R23, R75, R76, R82 to R92, R121). -/

namespace Sys2Proof.Machine

/-- The DONE body of a window command: the slot and the state it has entered (12.3). -/
def State.slotState (s : State) (k : SlotId) : List Byte := [BitVec.ofNat 8 k.val, (s.window k).state.code]

/-! ### WINDOW CREATE -/

/-- WINDOW CREATE: checked by R13, loaded by R15. -/
def windowCreateReply (slot role : Byte) (b : FieldBlock) (s : State) : State × Reply :=
  match s.createCheck slot role b with
  | .error why => s.refuse why
  | .ok (k, r) => (s.putWindow k (Window.create r b), .done [BitVec.ofNat 8 k.val, WState.staged.code])

/-- WINDOW_CREATE. -/
def execWindowCreate (slot role : Byte) (block : FieldBlock) (s : State) : Result :=
  takeCommand 0x20 (.windowCreate slot role block) (windowCreateReply slot role block) s

/-! ### WINDOW MODIFY -/

/-- The groups of a select set, by their bits (12.3). -/
structure Selection where
  geometry : Bool
  access : Bool
  claims : Bool
  lease : Bool
  idle : Bool
  walk : Bool
  deriving DecidableEq, Repr

/-- The select set a byte spells; bits 7:6 are undefined group codes and are checked apart (R16). -/
def selectionOf (b : Byte) : Selection where
  geometry := b.getLsbD 0
  access := b.getLsbD 1
  claims := b.getLsbD 2
  lease := b.getLsbD 3
  idle := b.getLsbD 4
  walk := b.getLsbD 5

/-- No group is selected. -/
def Selection.isEmpty (x : Selection) : Bool :=
  !(x.geometry || x.access || x.claims || x.lease || x.idle || x.walk)

/-- The field block of the record as it would stand with the selected groups loaded and the others kept (R12). The
reserved flag bits are the carried ones, but for an empty selection, which passes every check (R16, R172;
assumption 9). -/
def FieldBlock.merge (x : Selection) (carried kept : FieldBlock) : FieldBlock :=
  let g := if x.geometry then carried else kept
  let a := if x.access then carried else kept
  let c := if x.claims then carried else kept
  let l := if x.lease then carried else kept
  let i := if x.idle then carried else kept
  let w := if x.walk then carried else kept
  let reserved := if x.isEmpty then kept else carried
  { base := g.base, granule := g.granule, span := g.span
    access := a.access, rights := a.rights, laneMask := a.laneMask
    claimLimit := c.claimLimit, holdLimit := c.holdLimit
    leaseMode := l.leaseMode, leaseReload := l.leaseReload, expiryAction := l.expiryAction
    idleLimit := i.idleLimit
    flags :=
      (c.flags &&& 0x01#8) ||| (i.flags &&& 0x02#8) ||| (w.flags &&& 0x1C#8) ||| (reserved.flags &&& 0xE0#8)
    walkStart := w.walkStart, stride := w.stride, stepLimit := w.stepLimit }

/-- The checks of WINDOW MODIFY on slot `k`, in their order after BAD_SLOT (R16). -/
def State.modifyCheck (s : State) (k : SlotId) (select : Byte) (b : FieldBlock) : Option Reason :=
  let w := s.window k
  let x := selectionOf select
  let inService := w.state = .opened ∨ w.state = .frozen
  if 64 ≤ select.toNat then some .badField
  else if w.state = .free ∨ w.state = .armed ∨ w.state = .draining then some .state
  else if w.isMember = true ∧ x.lease = true then some .group
  else if inService ∧ (x.geometry = true ∨ x.walk = true) then some .state
  else if inService ∧ x.lease = true ∧ leaseModeOf b.leaseMode ≠ some w.leaseMode then some .state
  else
    match (FieldBlock.merge x b w.block).check with
    | some why => some why
    | none => if x.claims = true ∧ b.claimLimit.toNat < s.heldCount k then some .claimsHeld else none

/-- The idle count after the IDLE group is loaded in OPEN or FROZEN: the new limit, or 0 when it is absent (R18). In
STAGED the count stays 0 (R17). -/
def Window.reloadIdle (w : Window) : Window :=
  if w.state = .opened ∨ w.state = .frozen then { w with idleCount := w.idleLimit.getD 0 } else w

/-- Loading the selected groups (R17, R18). The lease count, step count, maps and state are kept. -/
def Window.loadSelected (x : Selection) (b : FieldBlock) (w : Window) : Window :=
  let w := if x.geometry then w.loadGeometry b else w
  let w := if x.access then w.loadAccess b else w
  let w := if x.claims then w.loadClaims b else w
  let w := if x.lease then w.loadLease b else w
  let w := if x.idle then (w.loadIdle b).reloadIdle else w
  if x.walk then w.loadWalk b else w

/-- WINDOW MODIFY: checked by R16, loaded by R17 or R18. -/
def windowModifyReply (slot select : Byte) (b : FieldBlock) (s : State) : State × Reply :=
  s.withSlot slot fun k =>
    match s.modifyCheck k select b with
    | some why => s.refuse why
    | none => (s.modifyWindow k (Window.loadSelected (selectionOf select) b), .done (s.slotState k))

/-- WINDOW_MODIFY. -/
def execWindowModify (slot select : Byte) (block : FieldBlock) (s : State) : Result :=
  takeCommand 0x21 (.windowModify slot select block) (windowModifyReply slot select block) s

/-! ### WINDOW QUERY -/

/-- The 43-byte body of WINDOW QUERY (R19, 12.3). For a FREE slot every byte but the state is 0, which is its record
(R126). -/
def State.queryBody (s : State) (k : SlotId) : List Byte :=
  let w := s.window k
  if w.state = .free then w.state.code :: List.replicate 42 0
  else
    [w.state.code, w.role.code] ++ FieldBlock.bytes w.block ++ bytesOf 2 w.leaseCount ++ [BitVec.ofNat 8 w.idleCount]
      ++ bytesOf 2 w.stepCount
      ++ [BitVec.ofNat 8 ((if w.overrun then 1 else 0) + (if w.shadowPending then 2 else 0)
            + (if w.lastHold.isSome then 4 else 0)), BitVec.ofNat 8 w.drainCount]
      ++ bytesOf 4 (w.lastHold.getD 0).toNat
      ++ [BitVec.ofNat 8 (s.heldCount k), BitVec.ofNat 8 (s.waitingCount k)]

/-- WINDOW QUERY is taken in every state and changes nothing (R19). -/
def windowQueryReply (slot : Byte) (s : State) : State × Reply :=
  s.withSlot slot fun k => (s, .done (s.queryBody k))

/-- WINDOW_QUERY. -/
def execWindowQuery (slot : Byte) (s : State) : Result :=
  takeCommand 0x22 (.windowQuery slot) (windowQueryReply slot) s

/-! ### ACTIVATE, DISARM, FREEZE, THAW -/

/-- ACTIVATE (R20, R84). -/
def activateReply (slot : Byte) (s : State) : State × Reply :=
  s.withSlot slot fun k =>
    if (s.window k).isMember = true then s.refuse .group
    else if (s.window k).state ≠ .staged then s.refuse .state
    else (s.activateUnit k, .done ((s.activateUnit k).slotState k))

/-- ACTIVATE. -/
def execActivate (slot : Byte) (s : State) : Result :=
  takeCommand 0x23 (.activate slot) (activateReply slot) s

/-- DISARM: every slot of an ARMED unit returns to STAGED (R21, R85). -/
def disarmReply (slot : Byte) (s : State) : State × Reply :=
  s.withSlot slot fun k =>
    if (s.window k).isMember = true then s.refuse .group
    else if (s.window k).state ≠ .armed then s.refuse .state
    else
      let t := s.modifyWindows (s.unitSlots k) fun w => { w with state := .staged }
      (t, .done (t.slotState k))

/-- DISARM. -/
def execDisarm (slot : Byte) (s : State) : Result :=
  takeCommand 0x24 (.disarm slot) (disarmReply slot) s

/-- The window is OPEN or FROZEN: the states FREEZE, THAW and RENEW take. -/
def Window.inService (w : Window) : Bool := w.state == .opened || w.state == .frozen

/-- FREEZE: an OPEN unit's OPEN slots become FROZEN; on a FROZEN unit nothing changes (R22, R86). -/
def freezeReply (slot : Byte) (s : State) : State × Reply :=
  s.withSlot slot fun k =>
    if (s.window k).isMember = true then s.refuse .group
    else if (s.window k).inService = false then s.refuse .state
    else (s.freezeUnit k, .done ((s.freezeUnit k).slotState k))

/-- FREEZE. -/
def execFreeze (slot : Byte) (s : State) : Result :=
  takeCommand 0x25 (.freeze slot) (freezeReply slot) s

/-- A FROZEN window returns to OPEN: its idle count is loaded, and a lease count of 0 is reloaded (R23). A member's lease
mode is NONE, so its count is not touched (R87). -/
def Window.thaw (w : Window) : Window :=
  { w with
    state := .opened
    idleCount := w.idleLimit.getD 0
    leaseCount := if w.leaseMode ≠ .none ∧ w.leaseCount = 0 then w.leaseReload else w.leaseCount }

/-- One slot of a THAW: a FROZEN slot returns to OPEN and runs a grant pass; any other is not changed (R23, R87). -/
def State.thawSlot (s : State) (k : SlotId) : State :=
  if (s.window k).state = .frozen then (s.modifyWindow k Window.thaw).grantPass k else s

/-- THAW (R23, R87). -/
def thawReply (slot : Byte) (s : State) : State × Reply :=
  s.withSlot slot fun k =>
    if (s.window k).isMember = true then s.refuse .group
    else if (s.window k).inService = false then s.refuse .state
    else
      let t := (s.unitSlots k).foldl State.thawSlot s
      (t, .done (t.slotState k))

/-- THAW. -/
def execThaw (slot : Byte) (s : State) : Result :=
  takeCommand 0x26 (.thaw slot) (thawReply slot) s

/-! ### RENEW on the management port -/

/-- The effect of an accepted RENEW: the lease count is loaded with the count, or with the reload when it is 0 (R75). -/
def Window.renew (count : BitVec 16) (w : Window) : Window :=
  { w with leaseCount := if count = 0 then w.leaseReload else count.toNat }

/-- RENEW (R76). -/
def renewReply (slot : Byte) (count : BitVec 16) (s : State) : State × Reply :=
  s.withSlot slot fun k =>
    if (s.window k).isMember = true then s.refuse .group
    else if (s.window k).inService = false then s.refuse .state
    else if (s.window k).leaseMode = .none then s.refuse .noLease
    else
      let t := s.modifyWindow k (Window.renew count)
      (t, .done (t.slotState k ++ bytesOf 2 (t.window k).leaseCount))

/-- RENEW. -/
def execRenew (slot : Byte) (count : BitVec 16) (s : State) : Result :=
  takeCommand 0x27 (.renew slot count) (renewReply slot count) s

/-! ### RETIRE -/

/-- The slot is the last member of a STAGED group (R92). -/
def State.isStagedTail (s : State) (k : SlotId) : Bool :=
  (s.window (s.owner k)).state == .staged
    && if h : k.val + 1 < 64 then !(s.window ⟨k.val + 1, h⟩).isMember else true

/-- RETIRE: checked by R121; on a SOLO or HEAD it retires the unit (R90), on the tail member of a STAGED group that
member alone (R92). FORCE is bit 0 of its byte (R172). -/
def retireReply (slot force : Byte) (s : State) : State × Reply :=
  s.withSlot slot fun k =>
    if (s.window k).state = .free then s.refuse .state
    else if (s.window k).isMember = true then
      if s.isStagedTail k then
        let t := (s.endClaims [k]).clearSlots [k]
        (t, .done (t.slotState k ++ [BitVec.ofNat 8 (t.window k).drainCount]))
      else s.refuse .group
    else if (s.window k).state = .draining ∧ force.getLsbD 0 = false then s.refuse .state
    else
      let t := s.retireUnit k (force.getLsbD 0)
      (t, .done (t.slotState k ++ [BitVec.ofNat 8 (t.window k).drainCount]))

/-- RETIRE. -/
def execRetire (slot force : Byte) (s : State) : Result :=
  takeCommand 0x28 (.retire slot force) (retireReply slot force) s

end Sys2Proof.Machine
end

