-- ==== Sys2Proof/Machine/Lookups.lean ====
section
/-! DEFINITION. The lane requests on windows: LOOKUP_READ, LOOKUP_WRITE (R43 to R58) and RENEW on a lane (R77). -/

namespace Sys2Proof.Machine

/-! ### Selection and the checks of a lookup -/

/-- The number of bytes of a window's span (R4). -/
def Window.spanBytes (w : Window) : Nat := w.span * 2 ^ w.granule

/-- The window is considered by selection: OPEN, FROZEN or DRAINING (R46). -/
def Window.selectable (w : Window) : Bool := w.state == .opened || w.state == .frozen || w.state == .draining

/-- The window's span contains the address (R46). -/
def Window.contains (w : Window) (a : Nat) : Bool := decide (w.base ≤ a) && decide (a < w.base + w.spanBytes)

/-- The selected window: the lowest-numbered selectable slot whose span contains the first byte (R46). -/
def State.select (s : State) (a : Nat) : Option SlotId :=
  (List.finRange 64).find? fun k => (s.window k).selectable && (s.window k).contains a

/-- The granule of an address in the span, counted from the current base (R25). -/
def Window.granuleOf (w : Window) (a : Nat) : Nat := (a - w.base) / 2 ^ w.granule

/-- Every granule from the first byte's to the last byte's is in service in the active map (R49). -/
def Window.mapped (w : Window) (first last : Nat) : Bool :=
  (List.range (w.granuleOf last - w.granuleOf first + 1)).all fun j => w.activeMap.getLsbD (w.granuleOf first + j)

/-- A HELD entry of this kind satisfies the claim check of the access (R51). -/
def ClaimKind.satisfies (held access : ClaimKind) : Bool := held == .write || access == .read

/-- What the checks of a lookup decide: a refusal, with the selected slot from check 6 on, or a grant on a slot (R43,
R56). -/
inductive Verdict where
  | refused (why : Reason) (slot : Option SlotId)
  | granted (k : SlotId)
  deriving DecidableEq, Repr

/-- Checks 6 to 10 against the selected window (R47 to R51). -/
def State.accessCheck (s : State) (r : Request) (access : ClaimKind) (k : SlotId) : Option Reason :=
  let w := s.window k
  let first := r.address.toNat
  let last := first + r.length.toNat - 1
  if w.state = .frozen then some .frozen
  else if w.state = .draining then some .retiring
  else if w.base + w.spanBytes ≤ last then some .split
  else if w.mapped first last = false then some .unmapped
  else if w.rights[(s.agent r.agent).cls].allows access = false then some .noRight
  else if w.access = .claimed ∧ s.holds r.agent k (fun kind => kind.satisfies access) = false then some .notHeld
  else none

/-- The checks of a lookup in their order (R43). -/
def State.lookupVerdict (s : State) (l : LaneId) (r : Request) (access : ClaimKind) : Verdict :=
  match s.laneCheck l r with
  | some why => .refused why none
  | none =>
    if r.length.toNat = 0 ∨ Config.maxLookupLength < r.length.toNat
        ∨ Config.addressSpace < r.address.toNat + r.length.toNat then .refused .length none
    else
      match s.select r.address.toNat with
      | none => .refused .noWindow none
      | some k =>
        match s.accessCheck r access k with
        | some why => .refused why (some k)
        | none => .granted k

/-! ### The effects of a grant -/

/-- The idle reload of a granted lookup (R53). -/
def Window.used (w : Window) : Window :=
  match w.idleLimit with
  | none => w
  | some n => { w with idleCount := n }

/-- The effects of a grant on slot `k`, in order: idle reload, decrement of a governing USES count, and its expiry when
it reaches 0 (R53 to R55). -/
def State.grantLookup (s : State) (k : SlotId) : State :=
  let t := s.modifyWindow k Window.used
  let o := s.owner k
  if (t.window o).leaseMode = .uses then
    let u := t.modifyWindow o fun w => { w with leaseCount := w.leaseCount - 1 }
    if (u.window o).leaseCount = 0 then u.expireLease o else u
  else t

/-- A slot number as an answer's slot field carries it. -/
def slotByte (k : SlotId) : Byte := BitVec.ofNat 8 k.val

/-- A lookup taken as one event: refused (R56), or granted with the selected slot and, for a write, the window's lane mask
as it stands when the lookup is taken (R52). -/
def State.lookup (s : State) (l : LaneId) (r : Request) (access : ClaimKind) : State :=
  match s.lookupVerdict l r access with
  | .refused why slot => s.refuseRequest l r why (slot.map slotByte)
  | .granted k =>
    (s.grantLookup k).answerLane l
      { r.answer .granted with
        slot := some (slotByte k)
        laneMask := if access = .write then some (s.window k).laneMask else none }

/-- LOOKUP_READ. -/
def execLookupRead (l : LaneId) (r : Request) (s : State) : Result :=
  takeRequest (.lookupRead l r) l r (fun t => t.lookup l r .read) s

/-- LOOKUP_WRITE. -/
def execLookupWrite (l : LaneId) (r : Request) (s : State) : Result :=
  takeRequest (.lookupWrite l r) l r (fun t => t.lookup l r .write) s

/-! ### RENEW on a lane -/

/-- The checks of a lane RENEW in their order: the reason, and whether the answer carries the slot (reasons 5 to 8), or
the slot to renew (R77). -/
def State.renewCheck (s : State) (l : LaneId) (r : Request) : Except (Reason × Bool) SlotId :=
  match s.laneCheck l r with
  | some why => .error (why, false)
  | none =>
    match slotOf r.slot with
    | none => .error (.noWindow, false)
    | some k =>
      match (s.window k).state with
      | .free | .staged | .armed => .error (.noWindow, false)
      | .draining => .error (.retiring, true)
      | .opened | .frozen =>
        if (s.window k).isMember = true then .error (.group, true)
        else if (s.window k).leaseMode = .none then .error (.noLease, true)
        else if (s.window k).agentRenew = false ∨ s.holds r.agent k (fun kind => kind == .write) = false then
          .error (.noRight, true)
        else .ok k

/-- A lane RENEW taken as one event (R75, R77). -/
def State.renewOnLane (s : State) (l : LaneId) (r : Request) : State :=
  match s.renewCheck l r with
  | .error (why, carries) => s.refuseRequest l r why (if carries then some r.slot else none)
  | .ok k =>
    (s.modifyWindow k (Window.renew r.renewCount)).answerLane l { r.answer .renewed with slot := some r.slot }

/-- RENEW_REQUEST. -/
def execRenewRequest (l : LaneId) (r : Request) (s : State) : Result :=
  takeRequest (.renewRequest l r) l r (fun t => t.renewOnLane l r) s

end Sys2Proof.Machine
end

