-- ==== Sys2Proof/Machine/Time.lean ====
section
/-! DEFINITION. The Timebase, its command and its ticks, and what the Window Table and the Claim Unit do at a tick (R59 to
R74, R85, R88, R89, R91, R113 to R115, R124). -/

namespace Sys2Proof.Machine

/-! ### The Timebase -/

/-- The end of a tick interval: the stamp counts it, and one tick is handed to each of the two blocks (R60). -/
def Timebase.endInterval (t : Timebase) : Timebase :=
  { t with
    subTick := 0, restarted := false, stamp := t.stamp + 1, windowTicks := t.windowTicks + 1,
    claimTicks := t.claimTicks + 1 }

/-- One REFCLK period at the Timebase (R60): RUNNING, the sub-tick count advances, and the interval ends when it would
reach the divider. STOPPED, the count holds. -/
def Timebase.refclk (t : Timebase) : Timebase :=
  if t.running then
    if t.subTick + 1 < t.divider then { t with subTick := t.subTick + 1, restarted := false } else t.endInterval
  else t

/-- The end of a tick interval arrives at a RUNNING Timebase: it is discarded when it was pending at a divider load taken
first (R62), and otherwise ends the interval (R60). -/
def Timebase.intervalEnd (t : Timebase) : Timebase :=
  if t.restarted then { t with restarted := false } else t.endInterval

/-- TICK: the tick interval of a RUNNING Timebase ends (R60, R62; assumption 4). -/
def execTick (s : State) : Result :=
  takeEvent s.timebase.running { s with timebase := s.timebase.intervalEnd } s

/-- The divider a TIMEBASE field stands for: 0 stands for 65536 (R172). -/
def dividerOf (field : BitVec 16) : Nat := if field = 0 then 65536 else field.toNat

/-- Loading the divider restarts the tick interval, and discards the end of one that is pending (R61, R62). -/
def Timebase.load (t : Timebase) (divider : Nat) : Timebase :=
  { t with divider := divider, subTick := 0, restarted := t.running }

/-- RUN: from STOPPED, the interval starts from 0; a RUNNING Timebase is kept (R61). -/
def Timebase.start (t : Timebase) : Timebase :=
  if t.running then t else { t with running := true, subTick := 0, restarted := false }

/-- STOP discards the part of an interval that has elapsed (R61). -/
def Timebase.stop (t : Timebase) : Timebase := { t with running := false, subTick := 0, restarted := false }

/-- The effect of an accepted TIMEBASE (R61). -/
def Timebase.command (t : Timebase) (divider : BitVec 16) (flags run : Byte) : Timebase :=
  let loaded := if flags.getLsbD 0 then t.load (dividerOf divider) else t
  let ran := if run = 1 then loaded.start else if run = 2 then loaded.stop else loaded
  if flags.getLsbD 1 then { ran with stamp := 0 } else ran

/-- The DONE body of TIMEBASE: divider, run state, stamp (12.3). -/
def Timebase.body (t : Timebase) : List Byte := bytesOf 3 t.divider ++ [yesNo t.running] ++ bytesOf 4 t.stamp.toNat

/-- TIMEBASE is refused when its run code is not defined (R61, R172). -/
def timebaseReply (divider : BitVec 16) (flags run : Byte) (s : State) : State × Reply :=
  if 2 < run.toNat then s.refuse .badField
  else
    ({ s with timebase := s.timebase.command divider flags run }, .done (s.timebase.command divider flags run).body)

/-- TIMEBASE. -/
def execTimebase (divider : BitVec 16) (flags run : Byte) (s : State) : Result :=
  takeCommand 0x41 (.timebase divider flags run) (timebaseReply divider flags run) s

/-! ### The Window Table's tick -/

/-- The opening of an ARMED slot: its lease count is loaded where its own mode is TIMED, so not on a member, and its idle
count from its limit (R65, R85). -/
def Window.openAtTick (w : Window) : Window :=
  if w.state = .armed then
    { w with
      state := .opened
      leaseCount := if w.leaseMode = .timed then w.leaseReload else w.leaseCount
      idleCount := w.idleLimit.getD 0 }
  else w

/-- Step 1 of R66 and R89: an OPEN slot's TIMED lease count and its idle count fall by one. -/
def Window.countDown (w : Window) : Window :=
  if w.state = .opened then
    { w with
      leaseCount := if w.leaseMode = .timed then w.leaseCount - 1 else w.leaseCount
      idleCount := if w.idleLimit.isSome then w.idleCount - 1 else w.idleCount }
  else w

/-- The idle count of an OPEN window with an idle limit is at 0. -/
def Window.idleOut (w : Window) : Bool := w.state == .opened && w.idleLimit.isSome && w.idleCount == 0

/-- The TIMED lease count of an OPEN window is at 0. -/
def Window.leaseOut (w : Window) : Bool := w.state == .opened && w.leaseMode == .timed && w.leaseCount == 0

/-- The idle expiry of slot `k` that is a member: it freezes alone (R73, R89). -/
def State.idleOutAlone (s : State) (k : SlotId) : State := (s.modifyWindow k Window.freeze).raise .idle

/-- The idle expiry of a SOLO window or a head: the unit freezes (R73, R89). -/
def State.idleOutUnit (s : State) (h : SlotId) : State := (s.freezeUnit h).raise .idle

/-- Step 1 of R66 and R89 on an OPEN unit: its counts fall by one. -/
def State.countedUnit (s : State) (h : SlotId) : State := s.modifyWindows (s.unitSlots h) Window.countDown

/-- Steps 1 and 2 of R66 and R89 on an OPEN unit: the counts, then the lease expiry of the slot that owns the lease. -/
def State.leasedUnit (s : State) (h : SlotId) : State :=
  if ((s.countedUnit h).window h).leaseOut then (s.countedUnit h).expireLease h else s.countedUnit h

/-- Steps 1 to 3 of R66 and R89 on an OPEN unit: then the idle expiry of a SOLO window or the head. -/
def State.headedUnit (s : State) (h : SlotId) : State :=
  if ((s.leasedUnit h).window h).idleOut then (s.leasedUnit h).idleOutUnit h else s.leasedUnit h

/-- A tick on an OPEN unit, in the steps of R66 and R89: decrement, lease expiry, idle expiry of the head, idle expiry of
members. -/
def State.tickOpen (s : State) (h : SlotId) : State :=
  (s.unitSlots h).foldl (fun t k => if (t.window k).idleOut then t.idleOutAlone k else t) (s.headedUnit h)

/-- A tick on a DRAINING unit: the drain count at the head falls by one and at 0 forces the unit FREE (R67, R124). -/
def State.tickDraining (s : State) (h : SlotId) : State :=
  let counted := s.modifyWindow h fun w => { w with drainCount := w.drainCount - 1 }
  if (counted.window h).drainCount = 0 then counted.forceDrained h else counted

/-- A tick on the unit of `h`, by its state when the tick is taken (R64). -/
def State.tickUnit (s : State) (h : SlotId) : State :=
  match (s.window h).state with
  | .armed => s.modifyWindows (s.unitSlots h) Window.openAtTick
  | .opened => s.tickOpen h
  | .draining => s.tickDraining h
  | .free | .staged | .frozen => s

/-- The Window Table's work at a tick: each unit once, in slot order; a member is handled with its head (R64, R89). -/
def State.windowTick (s : State) : State :=
  (List.finRange 64).foldl (fun t k => if (t.window k).isMember then t else t.tickUnit k)
    { s with timebase := { s.timebase with windowTicks := s.timebase.windowTicks - 1 } }

/-- WINDOW_TICK: a tick handed to the Window Table is taken (R60, R64). -/
def execWindowTick (s : State) : Result := takeEvent (0 < s.timebase.windowTicks) s.windowTick s

/-- The tick in hand takes the TIMED lease count that slot `k` owns to 0 (R66, R69). -/
def State.leaseExpiresAtTick (s : State) (k : SlotId) : Bool :=
  (s.window k).state == .opened && !(s.window k).isMember && ((s.countedUnit k).window k).leaseOut

/-- The lane request that the arbiter grants now, and the access it asks for, when it is a lookup. -/
def State.lookupInTurn (s : State) : Option (LaneId × Request × ClaimKind) :=
  ((List.finRange 4).find? fun l => s.arbiterChoice == some (laneRequester l)).bind fun l =>
    (s.lane l).request.bind fun r =>
      if r.kind = 1 then some (l, r, .read) else if r.kind = 2 then some (l, r, .write) else none

/-- A lookup is granted and takes the USES lease count that slot `k` owns to 0 (R54, R55, R69). -/
def State.isLastUse (s : State) (k : SlotId) (l : LaneId) (r : Request) (access : ClaimKind) : Bool :=
  match s.lookupVerdict l r access with
  | .refused _ _ => false
  | .granted j => s.owner j == k && (s.window k).leaseMode == .uses && decide ((s.window k).leaseCount ≤ 1)

/-- LEASE_EXPIRY is the event that takes this lease count to 0 (R69): of a USES lease the lookup that the arbiter grants
now, of a TIMED one the tick handed to the Window Table (assumption 6). -/
def execLeaseExpiry (k : SlotId) (s : State) : Result :=
  match s.lookupInTurn.filter fun (l, r, access) => s.isLastUse k l r access with
  | some (l, r, access) => takeEvent true ((s.granted (laneRequester l)).lookup l r access) s
  | none => takeEvent (decide (0 < s.timebase.windowTicks) && s.leaseExpiresAtTick k) s.windowTick s

/-- The tick in hand takes the idle count of slot `k` to 0 and finds the window still OPEN after any lease expiry and any
idle expiry of its head (R66, R73, R89). -/
def State.idleExpiresAtTick (s : State) (k : SlotId) : Bool :=
  let h := s.owner k
  (s.window h).state == .opened && (s.unitSlots h).contains k
    && (if k = h then ((s.leasedUnit h).window k).idleOut else ((s.headedUnit h).window k).idleOut)

/-- IDLE_EXPIRY is the tick handed to the Window Table that takes this idle count to 0 (R73; assumption 6). -/
def execIdleExpiry (k : SlotId) (s : State) : Result :=
  takeEvent (decide (0 < s.timebase.windowTicks) && s.idleExpiresAtTick k) s.windowTick s

/-- The tick in hand takes the drain count that slot `k` keeps to 0 (R67, R124). -/
def State.drainExpiresAtTick (s : State) (k : SlotId) : Bool :=
  (s.window k).state == .draining && !(s.window k).isMember && decide ((s.window k).drainCount ≤ 1)

/-- DRAIN_EXPIRY is the tick handed to the Window Table that takes this drain count to 0 (R124; assumption 6). -/
def execDrainExpiry (k : SlotId) (s : State) : Result :=
  takeEvent (decide (0 < s.timebase.windowTicks) && s.drainExpiresAtTick k) s.windowTick s

/-! ### The Claim Unit's tick -/

/-- Step 1 of R113: the countdown of a WAITING or HELD entry, where present, falls by one. -/
def Entry.countDown (e : Entry) : Entry :=
  if e.live then { e with countdown := e.countdown.map (· - 1) } else e

/-- The entry is HELD and its hold countdown is at 0. -/
def Entry.holdOut (e : Entry) : Bool := e.state == .held && e.countdown == some 0

/-- The entry is WAITING and its wait countdown is at 0. -/
def Entry.waitOut (e : Entry) : Bool := e.state == .waiting && e.countdown == some 0

/-- The slots that step 2 of R113 leaves without one of their HELD entries, or without the head of their queue. -/
def State.lossSlots (s : State) : List SlotId :=
  (List.finRange 64).filter fun k =>
    (List.finRange 48).any fun i =>
      (s.entry i).slot == k && ((s.entry i).holdOut || ((s.entry i).waitOut && (s.entry i).arrival == 1))

/-- Step 2 of R113: revocations, which raise REVOKED, and wait expiries (R114, R115). -/
def State.endTimedOut (s : State) : State :=
  let raised := if (List.finRange 48).any fun i => (s.entry i).holdOut then s.raise .revoked else s
  (raised.endWhere Entry.holdOut .revoked).endWhere Entry.waitOut .waitExpired

/-- The Claim Unit's work at a tick (R113). -/
def State.claimTick (s : State) : State :=
  let counted :=
    State.mapEntries { s with timebase := { s.timebase with claimTicks := s.timebase.claimTicks - 1 } } Entry.countDown
  counted.lossSlots.foldl State.afterLoss counted.endTimedOut

/-- CLAIM_TICK: a tick handed to the Claim Unit is taken (R60, R113). -/
def execClaimTick (s : State) : Result := takeEvent (0 < s.timebase.claimTicks) s.claimTick s

/-- REVOCATION is the tick handed to the Claim Unit that takes the hold countdown of this entry to 0 (R114;
assumption 6). -/
def execRevocation (i : EntryId) (s : State) : Result :=
  takeEvent (decide (0 < s.timebase.claimTicks) && (s.entry i).countDown.holdOut) s.claimTick s

/-- WAIT_EXPIRY is the tick handed to the Claim Unit that takes the wait countdown of this entry to 0 (R115;
assumption 6). -/
def execWaitExpiry (i : EntryId) (s : State) : Result :=
  takeEvent (decide (0 < s.timebase.claimTicks) && (s.entry i).countDown.waitOut) s.claimTick s

end Sys2Proof.Machine
end

