-- ==== Sys2Proof/Machine/Loading.lean ====
section
/-! DEFINITION. Device reset, the service states and the image load: DEVICE_RESET, RESET_RELEASE, RELOAD, LOAD ABORT, the
bus events, the image parts, LOAD_SUCCESS and LOAD_FAILURE (R162 to R170). -/

namespace Sys2Proof.Machine

/-! ### Reset -/

/-- The start of a load: LOADING, the load result PENDING with its other fields cleared, the first attempt's bus check to
come (R162, R163, R164). -/
def State.startLoad (s : State) : State :=
  { s with
    service := .loading
    loader :=
      { Loader.reset with result := { outcome := .pending, fault := none, attempts := 0 }, phase := .busCheck } }

/-- DEVICE_RESET: every block at its reset values, any operation in flight ended (R162). The queue of commands to come is
the outside world's and is kept, and so is the number of the next free value (assumption 18): neither is a block's. -/
def execDeviceReset (s : State) : Result := .next { State.reset with naks := s.naks, pending := s.pending }

/-- The part after the rising edge of RST_N: the straps are sampled, and LOADEN decides the service state (R162). -/
def State.released (s : State) (loaden : Bool) (imga : BitVec 3) : State :=
  let t := { s with rstLow := false, imga := imga, service := .ready }
  if loaden then t.startLoad else t

/-- RESET_RELEASE: the rising edge of RST_N, which can occur only while RST_N is low. -/
def execResetRelease (loaden : Bool) (imga : BitVec 3) (s : State) : Result :=
  if s.rstLow then .next (s.released loaden imga) else .next s

/-! ### RELOAD and LOAD ABORT -/

/-- RELOAD starts a load when every slot and every entry is FREE (R169). -/
def reloadReply (s : State) : State × Reply :=
  if s.freeSlots = 64 ∧ s.freeEntries = 48 then (s.startLoad, .done []) else s.refuse .notEmpty

/-- RELOAD. -/
def execReload (s : State) : Result := takeCommand 0x58 .reload reloadReply s

/-- LOAD ABORT asks a load to end; in READY it is refused with STATE (R170). -/
def loadAbortReply (s : State) : State × Reply :=
  if s.service = .loading then ({ s with loader := { s.loader with abortAsked := true } }, .done [])
  else s.refuse .state

/-- LOAD_ABORT. -/
def execLoadAbort (s : State) : Result := takeCommand Config.loadAbortCode .loadAbort loadAbortReply s

/-! ### The bus (R164, R165) -/

/-- A failure reason that names no record. -/
def LoadFault.plain (why : Reason) : LoadFault := { reason := why, index := none, why := none }

/-- BAD_RECORD with the record's index and the refusal reason it drew (R166). -/
def LoadFault.record (index : Nat) (why : Reason) : LoadFault := { reason := .badRecord, index := some index, why := some why }

/-- The load is to end with a failure, and `bus` is what the loader did on the two-wire port; the stop, where a start has
been made, follows at the end of the load (R165, R166, R170). -/
def Loader.fail (l : Loader) (f : LoadFault) (bus : List BusEvent) : Loader := { l with phase := .failing f, bus := bus }

/-- The load is to end with a failure; the loader did `bus` and then released both lines, and no stop is to follow (R165,
R170). -/
def Loader.failReleased (l : Loader) (f : LoadFault) (bus : List BusEvent) : Loader :=
  { l with phase := .failing f, started := false, bus := bus ++ [.release] }

/-- The stop condition that is due when a start has been made and no stop since (R164, R170). -/
def Loader.stopDue (l : Loader) : List BusEvent := if l.started then [.stop] else []

/-- An attempt begins: freeing pulses where TWD read low, then the start condition and the address with the write bit, and
attempts counted (R164; assumption 18). -/
def Loader.beginAttempt (l : Loader) (imga : BitVec 3) (pulses : Nat) : Loader :=
  { l with
    phase := .addressing
    started := true
    bus := (if pulses = 0 then [] else [.pulses pulses]) ++ startAddress imga
    result := { l.result with attempts := l.result.attempts + 1 } }

/-- BUS_CHECK: TWD high at the first reading or after at most nine freeing pulses, the attempt begins; still low after the
ninth, the load fails with BUS_BUSY, with no stop (R164, R165). After an abort was asked, the load ends here instead
(R170). -/
def execBusCheck (lowReadings : Nat) (s : State) : Result :=
  takeEvent (s.loader.phase == .busCheck && !s.loader.abortAsked)
    { s with
      loader :=
        if lowReadings ≤ Config.maxFreeingPulses then s.loader.beginAttempt s.imga lowReadings
        else s.loader.failReleased (.plain .busBusy) [.pulses Config.maxFreeingPulses] } s

/-- What the loader sent between the bus check and the address byte that drew a NAK, that byte with it: nothing more where
it is the one with the write bit, which BUS_CHECK has sent (step 2), and else the offset bytes, the repeated start and the
one with the read bit (steps 3 and 4 of R164). Which of the two it is is a free value (assumption 18). -/
def State.sentToAddressNak (s : State) : List BusEvent :=
  if Config.nakAtLaterByte s.naks then offsetAndReadAddress s.imga else []

/-- What the loader sent up to the offset byte that drew a NAK, that byte with it: the high byte, or both (step 3 of R164).
Which of the two it is is a free value (assumption 18). -/
def State.sentToOffsetNak (s : State) : List BusEvent :=
  if Config.nakAtLaterByte s.naks then [.send 0, .send 0] else [.send 0]

/-- A NAK is taken: the loader goes on as given, and the next NAK has the next free value (assumption 18). -/
def State.nakTaken (s : State) (l : Loader) : State := { s with loader := l, naks := s.naks + 1 }

/-- The attempt ends with a stop condition, made here, and the next one is to begin with its bus check; `sent` is what the
loader sent before the stop (R164). -/
def Loader.endAttempt (l : Loader) (sent : List BusEvent) : Loader :=
  { l with phase := .busCheck, started := false, bus := sent ++ [.stop] }

/-- ADDRESS_NAK: the attempt ends with a stop; the fourth fails the load with NO_DEVICE, after a stop (R164, R165). The
manual does not say plainly whether a NAK at the acknowledge bit of the byte completed after a LOAD ABORT is found before
that point (R170); the model counts it so, and a fourth one gives NO_DEVICE (assumption 28). -/
def execAddressNak (s : State) : Result :=
  takeEvent (s.loader.phase == .addressing)
    (s.nakTaken
      (if Config.maxAttempts ≤ s.loader.result.attempts then s.loader.fail (.plain .noDevice) s.sentToAddressNak
      else s.loader.endAttempt s.sentToAddressNak)) s

/-- OFFSET_NAK: the load fails at once with NO_DEVICE, after a stop (R164, R165); so too at the acknowledge bit of the byte
completed after a LOAD ABORT (assumption 28). -/
def execOffsetNak (s : State) : Result :=
  takeEvent (s.loader.phase == .addressing) (s.nakTaken (s.loader.fail (.plain .noDevice) s.sentToOffsetNak)) s

/-- The loader releases TWC and waits for it in this phase: in a bus check, in the bytes of an attempt, the stop that ends it
among them (assumption 18), in the stop at the end of the read, and in the stop of a load that is to fail (R164, R165). -/
def Loader.onBus (l : Loader) : Bool :=
  match l.phase with
  | .busCheck | .addressing | .settings | .record _ | .ending => true
  | .failing _ => l.started
  | .idle => false

/-- The loader when TWC has been held low for too long: the load fails with BUS_HELD and both lines are released without a
stop (R165), or ends with ABORTED where an abort was asked, with a stop if a start has been made (R170). A load that is to
fail already keeps its reason and releases the lines without the stop (assumption 27). -/
def Loader.held (l : Loader) : Loader :=
  match l.phase with
  | .failing f => l.failReleased f []
  | _ =>
    if l.abortAsked then l.failReleased (.plain .aborted) l.stopDue else l.failReleased (.plain .busHeld) []

/-- BUS_HELD: TWC held low for more than 10000 loader clock periods fails the load (R165). After an abort was asked, the
load ends at the stretch with ABORTED, and with a stop if a start has been made (R170). -/
def execBusHeld (s : State) : Result :=
  takeEvent s.loader.onBus { s with loader := s.loader.held } s

/-! ### The image (R166, R167) -/

/-- The loader's part in receiving a part of the image: the bytes of the attempt before a header, then the part's bytes,
each acknowledged but for the one at which the read ends (R164, step 5). -/
def Loader.received (before : List BusEvent) (bytes : List Byte) (last : Bool) : List BusEvent :=
  before ++ [.receive bytes.length last]

/-- The load goes on to a phase. When an abort was asked, the byte that completed this part was the byte in progress at the
abort, and the load is to end with ABORTED (R170; assumption 19). -/
def Loader.proceed (l : Loader) (p : LoadPhase) (before : List BusEvent) (bytes : List Byte) : Loader :=
  if l.abortAsked then l.fail (.plain .aborted) (Loader.received before bytes true)
  else { l with phase := p, bus := Loader.received before bytes (p == .ending) }

/-- The phase after record `index` is done: the next record, or the end of the read. -/
def Loader.after (l : Loader) (index : Nat) : LoadPhase :=
  if index < l.agentCount + l.windowCount then .record (index + 1) else .ending

/-- The running sum over the bytes of a record (R166). -/
def Loader.addSum (l : Loader) (bytes : List Byte) : Loader :=
  { l with runningSum := l.runningSum + BitVec.ofNat 16 ((bytes.map BitVec.toNat).sum) }

/-- The checks of a header, in order (R166). -/
def headerCheck (bytes : List Byte) : Option Reason :=
  if fieldAt bytes 0 2 ≠ Config.imageMarker ∨ fieldAt bytes 2 1 ≠ Config.imageVersion ∨ 32 < fieldAt bytes 3 1
      ∨ 64 < fieldAt bytes 4 1 ∨ fieldAt bytes 9 1 ≠ 0 then some .badHeader
  else if fieldAt bytes 5 2 ≠ 32 + 8 * fieldAt bytes 3 1 + 64 * fieldAt bytes 4 1 then some .badLength
  else none

/-- The loader with a completed header; `before` is what it sent before it. -/
def Loader.header (l : Loader) (before : List BusEvent) (bytes : List Byte) : Loader :=
  match headerCheck bytes with
  | some why => l.fail (.plain why) (Loader.received before bytes true)
  | none =>
    Loader.proceed
      { l with
        agentCount := fieldAt bytes 3 1
        windowCount := fieldAt bytes 4 1
        sumField := BitVec.ofNat 16 (fieldAt bytes 7 2)
        runningSum := 0 } .settings before bytes

/-- IMAGE_HEADER. -/
def execImageHeader (bytes : List Byte) (s : State) : Result :=
  takeEvent ((Instr.imageHeader bytes).wf && s.loader.phase == .addressing)
    { s with loader := s.loader.header (offsetAndReadAddress s.imga) bytes } s

/-- The settings a record holds, when its fields pass their checks: divider 1 to 65536, a defined run-at-end code, a drain
limit of 1 to 255 (R166). -/
def heldSettingsOf (bytes : List Byte) : Option HeldSettings :=
  if 1 ≤ fieldAt bytes 0 3 ∧ fieldAt bytes 0 3 ≤ 65536 ∧ fieldAt bytes 3 1 ≤ 1 ∧ 1 ≤ fieldAt bytes 4 1 then
    some { divider := fieldAt bytes 0 3, runAtEnd := byteAt bytes 3 == 1, drainLimit := fieldAt bytes 4 1,
           enables := byteAt bytes 5 }
  else none

/-- The loader with a completed settings record: held, or BAD_RECORD with index 0 and BAD_FIELD (R166, R167). -/
def Loader.settingsRecord (l : Loader) (bytes : List Byte) : Loader :=
  match heldSettingsOf bytes with
  | none => l.fail (.record 0 .badField) (Loader.received [] bytes true)
  | some h => Loader.proceed { l.addSum bytes with settings := some h } (l.after 0) [] bytes

/-- SETTINGS_RECORD. -/
def execSettingsRecord (bytes : List Byte) (s : State) : Result :=
  takeEvent ((Instr.settingsRecord bytes).wf && s.loader.phase == .settings)
    { s with loader := s.loader.settingsRecord bytes } s

/-- The index of the agent record to come, if one is. -/
def Loader.agentIndex (l : Loader) : Option Nat :=
  match l.phase with
  | .record i => if 1 ≤ i ∧ i ≤ l.agentCount then some i else none
  | _ => none

/-- The index of the window record to come, if one is. -/
def Loader.windowIndex (l : Loader) : Option Nat :=
  match l.phase with
  | .record i => if l.agentCount < i ∧ i ≤ l.agentCount + l.windowCount then some i else none
  | _ => none

/-- A completed agent record: checked as AGENT SET's operands and applied with its effect (R166, R167). -/
def State.agentRecord (s : State) (index : Nat) (bytes : List Byte) : State :=
  match s.agentCheck (byteAt bytes 0) (byteAt bytes 1) (byteAt bytes 2) (byteAt bytes 3) (byteAt bytes 4) with
  | .error why => { s with loader := s.loader.fail (.record index why) (Loader.received [] bytes true) }
  | .ok (a, r) =>
    let t := s.loadAgent a r
    { t with loader := (s.loader.addSum bytes).proceed (s.loader.after index) [] bytes }

/-- AGENT_RECORD. -/
def execAgentRecord (bytes : List Byte) (s : State) : Result :=
  match s.loader.agentIndex with
  | none => .next s
  | some index => takeEvent (Instr.agentRecord bytes).wf (s.agentRecord index bytes) s

/-- A completed window record: checked as WINDOW CREATE's operands, then its activate-at-end code, and applied with the
effect of WINDOW CREATE, its map written over the whole active map (R166, R167; assumption 25). -/
def State.windowRecord (s : State) (index : Nat) (bytes : List Byte) : State :=
  let b := parseBlock (bytes.drop 2)
  match s.createCheck (byteAt bytes 0) (byteAt bytes 1) b with
  | .error why => { s with loader := s.loader.fail (.record index why) (Loader.received [] bytes true) }
  | .ok (k, role) =>
    if 1 < fieldAt bytes 30 1 then
      { s with loader := s.loader.fail (.record index .badField) (Loader.received [] bytes true) }
    else
      let t := s.putWindow k { Window.create role b with activeMap := mapOfBytes (bytes.drop 32) }
      let noted :=
        { s.loader.addSum bytes with
          activateAtEnd :=
            if byteAt bytes 30 = 1 then s.loader.activateAtEnd ||| (1#64 <<< k.val) else s.loader.activateAtEnd }
      { t with loader := noted.proceed (s.loader.after index) [] bytes }

/-- WINDOW_RECORD. -/
def execWindowRecord (bytes : List Byte) (s : State) : Result :=
  match s.loader.windowIndex with
  | none => .next s
  | some index => takeEvent (Instr.windowRecord bytes).wf (s.windowRecord index bytes) s

/-! ### The end of a load -/

/-- What the loader does on the two-wire port at the end of a load: a byte in progress at an abort is completed, which
answers a byte being read with a NAK; a stop follows where a start has been made; both lines are released (R164 to R166,
R170). -/
def Loader.closing (l : Loader) : List BusEvent :=
  (match l.phase with
    | .addressing | .settings | .record _ => [.finishByte]
    | .idle | .busCheck | .ending | .failing _ => []) ++ l.stopDue ++ [.release]

/-- The loader after a load has ended with a result. -/
def Loader.ended (l : Loader) (outcome : LoadOutcome) (f : Option LoadFault) : Loader :=
  { Loader.reset with
    result := { outcome := outcome, fault := f, attempts := l.result.attempts }, bus := l.closing }

/-- The sum matches and no abort was asked: the load succeeds (R168, R170). -/
def Loader.succeeds (l : Loader) : Bool :=
  l.phase == .ending && !l.abortAsked && l.runningSum == l.sumField

/-- Applying the held settings record: the divider as by a TIMEBASE load, the drain limit and the enable set (R168). -/
def State.applySettings (s : State) (h : HeldSettings) : State :=
  { s with
    timebase := s.timebase.load h.divider
    drainLimit := h.drainLimit
    attn := { s.attn with enables := h.enables } }

/-- One slot of the activations at the end of a successful load: a SOLO or HEAD window whose flag is set (R168). -/
def State.activateFlagged (flags : BitVec 64) (s : State) (k : SlotId) : State :=
  if flags.getLsbD k.val = true ∧ (s.window k).isMember = false ∧ (s.window k).state = .staged then s.activateUnit k
  else s

/-- The Timebase is run as by TIMEBASE RUN (R168). -/
def State.runTimebase (s : State) : State := { s with timebase := s.timebase.start }

/-- The success event, in its order: settings, activation, Timebase, end (R168). -/
def State.loadSucceeded (s : State) : State :=
  let set := match s.loader.settings with
    | none => s
    | some h => s.applySettings h
  let activated := (List.finRange 64).foldl (State.activateFlagged s.loader.activateAtEnd) set
  let ran := match s.loader.settings with
    | none => activated
    | some h => if h.runAtEnd then activated.runTimebase else activated
  State.raise { ran with service := .ready, loader := s.loader.ended .done none } .loadDone

/-- LOAD_SUCCESS. -/
def execLoadSuccess (s : State) : Result := takeEvent s.loader.succeeds s.loadSucceeded s

/-- The failure a load ends with now, if it fails: the one found by a check or by the bus; ABORTED where an abort was
asked; BAD_SUM when the sums differ (R166, R170; assumption 19). -/
def Loader.failure (l : Loader) : Option LoadFault :=
  match l.phase with
  | .idle => none
  | .failing f => some f
  | .ending =>
    if l.abortAsked then some (.plain .aborted)
    else if l.runningSum ≠ l.sumField then some (.plain .badSum)
    else none
  | .busCheck | .addressing | .settings | .record _ => if l.abortAsked then some (.plain .aborted) else none

/-- The failure event: table and entries cleared, agents at their reset values, the held settings discarded, FAILED,
READY, LOAD_FAIL (R167). -/
def State.loadFailed (s : State) (f : LoadFault) : State :=
  let t := s.clearSlots (List.finRange 64)
  State.raise
    { t with
      entries := Vector.replicate 48 Entry.free
      agents := Vector.replicate 32 AgentRecord.reset
      service := .ready
      loader := s.loader.ended .failed (some f) } .loadFail

/-- LOAD_FAILURE. -/
def execLoadFailure (s : State) : Result :=
  match s.loader.failure with
  | none => .next s
  | some f => takeEvent true (s.loadFailed f) s

end Sys2Proof.Machine
end

