-- ==== Sys2Proof/Machine/Maps.lean ====
section
/-! DEFINITION. The coverage map commands MAP WRITE, MAP READ and MAP COMMIT (R25 to R33). -/

namespace Sys2Proof.Machine

/-- MAP WRITE writes the active map in STAGED, and the shadow map, with shadow pending set, in OPEN or FROZEN (R28,
R29). -/
def mapWriteReply (slot index : Byte) (word : Word32) (s : State) : State × Reply :=
  s.withSlot slot fun k =>
    let w := s.window k
    if 7 < index.toNat then s.refuse .badField
    else
      match w.state with
      | .staged =>
        (s.putWindow k { w with activeMap := setMapWord w.activeMap index.toNat word }, .done [w.state.code, 0])
      | .opened | .frozen =>
        (s.putWindow k { w with shadowMap := setMapWord w.shadowMap index.toNat word, shadowPending := true },
          .done [w.state.code, 1])
      | .free | .armed | .draining => s.refuse .state

/-- MAP_WRITE. -/
def execMapWrite (slot index : Byte) (word : Word32) (s : State) : Result :=
  takeCommand 0x30 (.mapWrite slot index word) (mapWriteReply slot index word) s

/-- MAP READ returns a word of the selected map in every state and changes nothing (R30). -/
def mapReadReply (slot index selector : Byte) (s : State) : State × Reply :=
  s.withSlot slot fun k =>
    let w := s.window k
    if 7 < index.toNat ∨ 1 < selector.toNat then s.refuse .badField
    else
      (s, .done (bytesOf 4 (mapWord (if selector = 0 then w.activeMap else w.shadowMap) index.toNat).toNat
        ++ [w.state.code, yesNo w.shadowPending]))

/-- MAP_READ. -/
def execMapRead (slot index selector : Byte) (s : State) : Result :=
  takeCommand 0x31 (.mapRead slot index selector) (mapReadReply slot index selector) s

/-- The commit of a pending shadow map; without one, nothing changes (R31). -/
def Window.commit (w : Window) : Window :=
  if w.shadowPending then { w with activeMap := w.shadowMap, shadowPending := false } else w

/-- MAP COMMIT acts on the named slot alone (R31). -/
def mapCommitReply (slot : Byte) (s : State) : State × Reply :=
  s.withSlot slot fun k =>
    let w := s.window k
    if w.state = .opened ∨ w.state = .frozen then
      (s.modifyWindow k Window.commit, .done [w.state.code, if w.shadowPending then 0 else 1])
    else s.refuse .state

/-- MAP_COMMIT. -/
def execMapCommit (slot : Byte) (s : State) : Result :=
  takeCommand 0x32 (.mapCommit slot) (mapCommitReply slot) s

end Sys2Proof.Machine
end

