-- ==== Sys2Proof/Machine/PortFrames.lean ====
section
/-! DEFINITION. The Management Port's frames: FRAME_START, SHIFT_OUT_COPY, READ_RESPONSE and FRAME_END (R154 to R160). -/

namespace Sys2Proof.Machine

/-- The port at a falling edge of MSEL_N: a frame begins and the status byte is latched (R154). -/
def Port.select (p : Port) (status : Byte) : Port :=
  { p with selected := true, statusLatch := status, copied := false, placedSinceCopy := false, shiftOut := [] }

/-- FRAME_START. -/
def execFrameStart (s : State) : Result :=
  takeEvent (!s.port.selected) { s with port := s.port.select s.statusByte } s

/-- The response buffer's contents are copied into the shift-out register; an empty buffer shifts out 0 (R157). -/
def Port.copyOut (p : Port) : Port :=
  { p with shiftOut := (p.buffer.map Response.bytes).getD [], copied := true }

/-- SHIFT_OUT_COPY: the code byte of a READ RESPONSE frame is complete (R157). -/
def execShiftOutCopy (s : State) : Result :=
  takeEvent (s.port.selected && !s.port.copied) { s with port := s.port.copyOut } s

/-- The port at a rising edge of MSEL_N. -/
def Port.close (p : Port) : Port := { p with selected := false, copied := false, placedSinceCopy := false }

/-- The end of a READ RESPONSE frame: RESP_OVERWRITTEN is cleared, and RESP_AVAIL unless a response was placed after the
code byte (R157). A copy not yet shown by SHIFT_OUT_COPY was made at the code byte (assumption 17). -/
def Port.endReadResponse (p : Port) : Port :=
  let shown := if p.copied then p else p.copyOut
  { shown.close with respOverwritten := false, respAvail := p.respAvail && p.placedSinceCopy }

/-- READ_RESPONSE: a frame whose first byte is complete and is the READ RESPONSE code ends, whatever its length (R156,
case 1, R157). -/
def execReadResponse (bits : List Bool) (s : State) : Result :=
  takeEvent (s.port.selected && (Instr.readResponse bits).wf) { s with port := s.port.endReadResponse } s

/-- The port refuses a frame itself: the response is placed, DISCARDED is cleared, and the port does not become BUSY
(R156, cases 3 to 6, R160). -/
def Port.refuseFrame (p : Port) (code : Byte) (why : Reason) : Port :=
  { Port.place p.close { code := code, reason := some why, body := [] } with discarded := false }

/-- The port accepts a frame: it holds the command and is BUSY (R156, case 7, R158, R160). -/
def Port.accept (p : Port) (c : Instr) : Port := { p.close with held := some c, discarded := false }

/-- How the port judges a frame that is not a READ RESPONSE, in the order of R156. `extraBits` are the bits of a further
byte that was not completed. -/
def Port.judge (p : Port) (service : Service) (bytes : List Byte) (extraBits : Nat) : Port :=
  if p.held.isSome then { p.close with discarded := true }
  else
    match bytes with
    | [] => p.refuseFrame 0 .frame
    | code :: ops =>
      match operandCount code with
      | none => p.refuseFrame code .badCommand
      | some n =>
        if ops.length ≠ n ∨ extraBits ≠ 0 then p.refuseFrame code .frame
        else if service = .loading ∧ code ≠ Config.statusCode ∧ code ≠ Config.loadAbortCode then
          p.refuseFrame code .loading
        else
          match parseCommand code ops with
          | none => p.refuseFrame code .badCommand
          | some c => p.accept c

/-- The end of a frame of these bits, grouped into bytes; a length that is not a multiple of eight ends inside a byte. A
frame of zero length changes no flag (R154); a READ RESPONSE is taken first (R156). -/
def Port.endFrame (p : Port) (service : Service) (bits : List Bool) : Port :=
  if bits = [] then p.close
  else if (frameBytes bits).head? = some Config.readResponseCode then p.endReadResponse
  else p.judge service (frameBytes bits) (bits.length % 8)

/-- A frame of these bits can end now: one is in progress, and it is a READ RESPONSE if its shift-out copy was made. -/
def Port.frameCanEnd (p : Port) (bits : List Bool) : Bool :=
  p.selected && (!p.copied || (frameBytes bits).head? == some Config.readResponseCode)

/-- FRAME_END. -/
def execFrameEnd (bits extraBits : List Bool) (s : State) : Result :=
  takeEvent ((Instr.frameEnd bits extraBits).wf && s.port.frameCanEnd bits)
    { s with port := s.port.endFrame s.service (bits ++ extraBits) } s

end Sys2Proof.Machine
end

