-- ==== Sys2Proof/Machine/Pulses.lean ====
section
/-! DEFINITION. The Pulse Unit and the movement of walking windows: PULSE SET, the samples of the pulse lines, RESTART and
ADVANCE (R34 to R42). -/

namespace Sys2Proof.Machine

/-! ### PULSE SET -/

/-- A line takes a qualification setting: a change sets the run count to 0, and the qualified level is kept (R37). -/
def LineState.qualify (l : LineState) (q : Qualification) : LineState :=
  if l.setting = q then l else { l with setting := q, run := 0 }

/-- A pair takes its enable and its two settings (R37). -/
def PairState.configure (p : PairState) (enabled : Bool) (restart advance : Qualification) : PairState :=
  { p with
    enabled := enabled
    restartLine := p.restartLine.qualify restart
    advanceLine := p.advanceLine.qualify advance }

/-- The 2-bit qualification code of a line in its byte (12.3). -/
def qualificationCode (b : Byte) (line : PulseLine) : Nat :=
  match line with
  | .fra => b.toNat % 4
  | .lna => b.toNat / 4 % 4
  | .frb => b.toNat / 16 % 4
  | .lnb => b.toNat / 64 % 4

/-- The DONE body of PULSE SET: the six settings as now loaded (R37); bits that are not read are 0 (assumption 20). -/
def State.pulseBody (s : State) : List Byte :=
  [BitVec.ofNat 8 ((if s.pairA.enabled then 1 else 0) + (if s.pairB.enabled then 2 else 0)),
   BitVec.ofNat 8 (s.pairA.restartLine.setting.code + s.pairA.advanceLine.setting.code * 4
     + s.pairB.restartLine.setting.code * 16 + s.pairB.advanceLine.setting.code * 64)]

/-- PULSE SET loads all six settings, or is refused when a qualification code is not defined (R37, R172). -/
def pulseSetReply (enables qualification : Byte) (s : State) : State × Reply :=
  match qualificationOf (qualificationCode qualification .fra), qualificationOf (qualificationCode qualification .lna),
    qualificationOf (qualificationCode qualification .frb), qualificationOf (qualificationCode qualification .lnb) with
  | some fra, some lna, some frb, some lnb =>
    let t : State :=
      { s with
        pairA := s.pairA.configure (enables.getLsbD 0) fra lna
        pairB := s.pairB.configure (enables.getLsbD 1) frb lnb }
    (t, .done t.pulseBody)
  | _, _, _, _ => s.refuse .badField

/-- PULSE_SET. -/
def execPulseSet (enables qualification : Byte) (s : State) : Result :=
  takeCommand 0x43 (.pulseSet enables qualification) (pulseSetReply enables qualification) s

/-! ### Samples -/

/-- The number of successive samples at which the qualified level changes (R35). -/
def Qualification.width : Qualification → Nat
  | .off => 1 | .filter2 => 2 | .filter4 => 4

/-- A line after one sample: the first after RST_N rose loads the qualified level (R34); later ones count against it and
change it at the width of the setting (R35). -/
def LineState.sample (l : LineState) (high : Bool) : LineState :=
  if l.sampled = false then { l with sampled := true, high := high, run := 0 }
  else if high = l.high then { l with run := 0 }
  else if l.setting.width ≤ l.run + 1 then { l with high := high, run := 0 }
  else { l with run := l.run + 1 }

/-- The sample is a rising edge of the line: its qualified level changes from low to high, and not by the loading of the
first sample (R34, R35). -/
def LineState.rises (l : LineState) (high : Bool) : Bool := l.sampled && !l.high && (l.sample high).high

/-- A pair after a sample of its restart line: a rising edge becomes one RESTART event while the pair is ENABLED (R36). -/
def PairState.sampleRestart (p : PairState) (high : Bool) : PairState :=
  { p with
    restartLine := p.restartLine.sample high
    restarts := if p.enabled && p.restartLine.rises high then p.restarts + 1 else p.restarts }

/-- A pair after a sample of its advance line: a rising edge becomes one ADVANCE event while the pair is ENABLED (R36). -/
def PairState.sampleAdvance (p : PairState) (high : Bool) : PairState :=
  { p with
    advanceLine := p.advanceLine.sample high
    advances := if p.enabled && p.advanceLine.rises high then p.advances + 1 else p.advances }

/-- The effect of one sample of a line (R35, R36). -/
def State.sampleLine (s : State) (line : PulseLine) (high : Bool) : State :=
  match line with
  | .fra => { s with pairA := s.pairA.sampleRestart high }
  | .lna => { s with pairA := s.pairA.sampleAdvance high }
  | .frb => { s with pairB := s.pairB.sampleRestart high }
  | .lnb => { s with pairB := s.pairB.sampleAdvance high }

/-- PULSE_LINE_SAMPLE. -/
def execPulseLineSample (line : PulseLine) (high : Bool) (s : State) : Result :=
  takeEvent true (s.sampleLine line high) s

/-! ### Pulse events at the Window Table -/

/-- A pulse event of the pair reaches the window: it has a walk with this pair and is OPEN or FROZEN (R38). -/
def Window.reachedBy (p : PulsePair) (w : Window) : Bool :=
  w.inService
    && match w.walk with
      | none => false
      | some k => k.pair == p

/-- RESTART on one window (R39). -/
def Window.restart (p : PulsePair) (w : Window) : Window :=
  if w.reachedBy p then
    match w.walk with
    | none => w
    | some k =>
      let placed := { w with base := k.start, stepCount := 0, overrun := false }
      if k.commitAtRestart then placed.commit else placed
  else w

/-- The step of an ADVANCE can be made: the step count is below the step limit and the new end lies within the address
space (R40). -/
def Window.canStep (w : Window) : Bool :=
  match w.walk with
  | none => false
  | some k =>
    decide (w.stepCount < k.stepLimit)
      && decide (w.base + 2 ^ k.stride + w.span * 2 ^ w.granule ≤ Config.addressSpace)

/-- ADVANCE on one window: one stride up, or the overrun flag (R40). -/
def Window.advance (p : PulsePair) (w : Window) : Window :=
  if w.reachedBy p then
    match w.walk with
    | none => w
    | some k =>
      if w.canStep then { w with base := w.base + 2 ^ k.stride, stepCount := w.stepCount + 1 }
      else { w with overrun := true }
  else w

/-- A window reached by the pair refuses the step. -/
def State.anyOverrun (s : State) (p : PulsePair) : Bool :=
  (List.finRange 64).any fun k => (s.window k).reachedBy p && !(s.window k).canStep

/-- The effect of RESTART on the pair (R38, R39). -/
def State.restart (s : State) (p : PulsePair) : State :=
  (s.putPair p { s.pair p with restarts := (s.pair p).restarts - 1 }).modifyWindows (List.finRange 64) (Window.restart p)

/-- RESTART: a RESTART event handed over by the Pulse Unit is taken (R36, R39). -/
def execRestart (p : PulsePair) (s : State) : Result := takeEvent (0 < (s.pair p).restarts) (s.restart p) s

/-- The effect of ADVANCE on the pair, with WALK_OVERRUN raised when a window refuses the step (R38, R40). -/
def State.advance (s : State) (p : PulsePair) : State :=
  let moved :=
    (s.putPair p { s.pair p with advances := (s.pair p).advances - 1 }).modifyWindows (List.finRange 64)
      (Window.advance p)
  if s.anyOverrun p then moved.raise .walkOverrun else moved

/-- ADVANCE: an ADVANCE event handed over by the Pulse Unit is taken (R36, R40). -/
def execAdvance (p : PulsePair) (s : State) : Result := takeEvent (0 < (s.pair p).advances) (s.advance p) s

end Sys2Proof.Machine
end

