-- ==== Sys2Proof/Machine/Tables.lean ====
section
/-! DEFINITION. The part-wide commands on the tables: STATUS (R161), CLAIM QUERY (R118), CLEAR ALL (R128) and SETTINGS
(R127). -/

namespace Sys2Proof.Machine

/-- The nine bytes of STATUS (R161, 12.3): absent fields of the load result read 0 (assumption 8). -/
def State.statusBody (s : State) : List Byte :=
  let r := s.loader.result
  [s.service.code, s.attn.causes, BitVec.ofNat 8 s.freeSlots, BitVec.ofNat 8 s.freeEntries, r.outcome.code,
   BitVec.ofNat 8 (reasonCode (r.fault.map LoadFault.reason)),
   BitVec.ofNat 8 ((r.fault.bind LoadFault.index).getD 0),
   BitVec.ofNat 8 (reasonCode (r.fault.bind LoadFault.why)),
   BitVec.ofNat 8 r.attempts]

/-- STATUS changes nothing. -/
def statusReply (s : State) : State × Reply := (s, .done s.statusBody)

/-- STATUS. -/
def execStatus (s : State) : Result := takeCommand Config.statusCode .status statusReply s

/-- The fourteen bytes of CLAIM QUERY (R118, 12.3). -/
def Entry.body (e : Entry) : List Byte :=
  [e.state.code, BitVec.ofNat 8 e.agent.val, BitVec.ofNat 8 e.slot.val, BitVec.ofNat 8 e.kind.code]
    ++ bytesOf 4 e.stamp.toNat
    ++ [yesNo e.countdown.isSome, BitVec.ofNat 8 (e.countdown.getD 0), BitVec.ofNat 8 e.arrival,
        yesNo e.outcome.isSome, BitVec.ofNat 8 ((e.outcome.map EOutcome.code).getD 0), yesNo e.noticePending]

/-- CLAIM QUERY changes nothing (R118). For a FREE entry every byte but the state is 0, which is its record (R94). -/
def claimQueryReply (entry : Byte) (s : State) : State × Reply :=
  match entryOf entry with
  | none => s.refuse .badEntry
  | some i => (s, .done (if (s.entry i).state = .free then Entry.free.body else (s.entry i).body))

/-- CLAIM_QUERY. -/
def execClaimQuery (entry : Byte) (s : State) : Result :=
  takeCommand 0x38 (.claimQuery entry) (claimQueryReply entry) s

/-- Every slot FREE, every entry FREE with no notice, every agent's claims in use 0, the expired set empty (R128). -/
def State.clearTables (s : State) : State :=
  let t := s.clearSlots (List.finRange 64)
  { t with
    entries := Vector.replicate 48 Entry.free
    agents := tabulate 32 fun a => { s.agent a with inUse := 0 }
    attn := { t.attn with expired := 0 } }

/-- CLEAR ALL is always accepted (R128). -/
def clearAllReply (s : State) : State × Reply := (s.clearTables, .done [])

/-- CLEAR_ALL. -/
def execClearAll (s : State) : Result := takeCommand 0x40 .clearAll clearAllReply s

/-- SETTINGS loads the drain limit; 0 is refused (R127). -/
def settingsReply (limit : Byte) (s : State) : State × Reply :=
  if limit = 0 then s.refuse .badField else ({ s with drainLimit := limit.toNat }, .done [limit])

/-- SETTINGS. -/
def execSettings (limit : Byte) (s : State) : Result := takeCommand 0x42 (.settings limit) (settingsReply limit) s

end Sys2Proof.Machine
end

