-- ==== Sys2Proof/Machine/Dispatch.lean ====
section
/-! DEFINITION. The dispatch: one arm per command, each one direct call of the command's meaning. -/

namespace Sys2Proof.Machine

def exec (i : Instr) (s : State) : Host.Outcome State Fault Refusal :=
  match i with
  | .deviceReset => Sys2Proof.Machine.execDeviceReset s
  | .resetRelease loaden imga => Sys2Proof.Machine.execResetRelease loaden imga s
  | .frameStart => Sys2Proof.Machine.execFrameStart s
  | .frameEnd bits extraBits => Sys2Proof.Machine.execFrameEnd bits extraBits s
  | .readResponse bits => Sys2Proof.Machine.execReadResponse bits s
  | .status => Sys2Proof.Machine.execStatus s
  | .agentSet agent enabled cls lane quota => Sys2Proof.Machine.execAgentSet agent enabled cls lane quota s
  | .agentQuery agent => Sys2Proof.Machine.execAgentQuery agent s
  | .windowCreate slot role block => Sys2Proof.Machine.execWindowCreate slot role block s
  | .windowModify slot select block => Sys2Proof.Machine.execWindowModify slot select block s
  | .windowQuery slot => Sys2Proof.Machine.execWindowQuery slot s
  | .activate slot => Sys2Proof.Machine.execActivate slot s
  | .disarm slot => Sys2Proof.Machine.execDisarm slot s
  | .freeze slot => Sys2Proof.Machine.execFreeze slot s
  | .thaw slot => Sys2Proof.Machine.execThaw slot s
  | .renew slot count => Sys2Proof.Machine.execRenew slot count s
  | .retire slot force => Sys2Proof.Machine.execRetire slot force s
  | .mapWrite slot index word => Sys2Proof.Machine.execMapWrite slot index word s
  | .mapRead slot index selector => Sys2Proof.Machine.execMapRead slot index selector s
  | .mapCommit slot => Sys2Proof.Machine.execMapCommit slot s
  | .claimQuery entry => Sys2Proof.Machine.execClaimQuery entry s
  | .clearAll => Sys2Proof.Machine.execClearAll s
  | .timebase divider flags run => Sys2Proof.Machine.execTimebase divider flags run s
  | .settings limit => Sys2Proof.Machine.execSettings limit s
  | .pulseSet enables qualification => Sys2Proof.Machine.execPulseSet enables qualification s
  | .gateBind gate bind slot polarity mode => Sys2Proof.Machine.execGateBind gate bind slot polarity mode s
  | .gatesSet levels => Sys2Proof.Machine.execGatesSet levels s
  | .attentionEnable enables => Sys2Proof.Machine.execAttentionEnable enables s
  | .ack causes slots => Sys2Proof.Machine.execAck causes slots s
  | .readExpired => Sys2Proof.Machine.execReadExpired s
  | .reportRead => Sys2Proof.Machine.execReportRead s
  | .reportClear => Sys2Proof.Machine.execReportClear s
  | .reload => Sys2Proof.Machine.execReload s
  | .loadAbort => Sys2Proof.Machine.execLoadAbort s
  | .requestTake lane word => Sys2Proof.Machine.execRequestTake lane word s
  | .requestWithdraw lane => Sys2Proof.Machine.execRequestWithdraw lane s
  | .lookupRead lane request => Sys2Proof.Machine.execLookupRead lane request s
  | .lookupWrite lane request => Sys2Proof.Machine.execLookupWrite lane request s
  | .claimRead lane request => Sys2Proof.Machine.execClaimRead lane request s
  | .claimWrite lane request => Sys2Proof.Machine.execClaimWrite lane request s
  | .release lane request => Sys2Proof.Machine.execRelease lane request s
  | .renewRequest lane request => Sys2Proof.Machine.execRenewRequest lane request s
  | .badKind lane request => Sys2Proof.Machine.execBadKind lane request s
  | .answerOffer lane => Sys2Proof.Machine.execAnswerOffer lane s
  | .noticeDelivery lane => Sys2Proof.Machine.execNoticeDelivery lane s
  | .messageTaken lane => Sys2Proof.Machine.execMessageTaken lane s
  | .tick => Sys2Proof.Machine.execTick s
  | .windowTick => Sys2Proof.Machine.execWindowTick s
  | .leaseExpiry slot => Sys2Proof.Machine.execLeaseExpiry slot s
  | .idleExpiry slot => Sys2Proof.Machine.execIdleExpiry slot s
  | .drainExpiry slot => Sys2Proof.Machine.execDrainExpiry slot s
  | .claimTick => Sys2Proof.Machine.execClaimTick s
  | .revocation entry => Sys2Proof.Machine.execRevocation entry s
  | .waitExpiry entry => Sys2Proof.Machine.execWaitExpiry entry s
  | .restart pair => Sys2Proof.Machine.execRestart pair s
  | .advance pair => Sys2Proof.Machine.execAdvance pair s
  | .busCheck lowReadings => Sys2Proof.Machine.execBusCheck lowReadings s
  | .addressNak => Sys2Proof.Machine.execAddressNak s
  | .offsetNak => Sys2Proof.Machine.execOffsetNak s
  | .busHeld => Sys2Proof.Machine.execBusHeld s
  | .imageHeader bytes => Sys2Proof.Machine.execImageHeader bytes s
  | .settingsRecord bytes => Sys2Proof.Machine.execSettingsRecord bytes s
  | .agentRecord bytes => Sys2Proof.Machine.execAgentRecord bytes s
  | .windowRecord bytes => Sys2Proof.Machine.execWindowRecord bytes s
  | .loadSuccess => Sys2Proof.Machine.execLoadSuccess s
  | .loadFailure => Sys2Proof.Machine.execLoadFailure s
  | .pulseLineSample line high => Sys2Proof.Machine.execPulseLineSample line high s
  | .requestWord lane word => Sys2Proof.Machine.execRequestWord lane word s
  | .shiftOutCopy => Sys2Proof.Machine.execShiftOutCopy s

end Sys2Proof.Machine
end

