-- ==== Sys2Proof/Machine/Step.lean ====
section
/-! DEFINITION. The step: the command at the front of the queue is taken; on an empty queue one REFCLK period passes at the
Timebase (assumption 3). -/

namespace Sys2Proof.Machine

/-- One REFCLK period with no command waiting: nothing happens while RST_N is low; otherwise the Timebase counts it
(R60). -/
def State.idleStep (s : State) : State :=
  if s.rstLow then s else { s with timebase := s.timebase.refclk }

/-- One step of the part. -/
def step (s : State) : Host.Outcome State Fault Refusal :=
  match s.pending with
  | [] => .next s.idleStep
  | c :: rest => exec c { s with pending := rest }

/-- The state with the command that a word of the opcode table's bits spells put at the front of its queue; no row of the
table has bits. -/
def State.withFetchWord (s : State) (nbits w : Nat) : State :=
  match decodeTableWord nbits w with
  | none => s
  | some c => { s with pending := c :: s.pending }

end Sys2Proof.Machine
end

