-- ==== Sys2Proof/Safety.lean ====
section
/-! DEFINITION. What stays true of the part: the rules the manual states as always holding, each as a property of one
state, and the words the statements about commands share. -/

namespace Sys2Proof.Machine

/-! ### Words for statements -/

/-- The state after a management command has been answered: its response placed in the buffer, the port IDLE (R158,
R159). -/
def State.answered (s : State) (code : Byte) (why : Option Reason) (body : List Byte) : State :=
  { s with
    port :=
      { s.port with
        held := none
        buffer := some { code := code, reason := why, body := body }
        respOverwritten := s.port.respOverwritten || s.port.respAvail
        respAvail := true
        placedSinceCopy := s.port.placedSinceCopy || s.port.copied } }

/-- The state after the arbiter has granted the port: the pointer names the requester that follows it, L0 (R142). -/
def State.portGranted (s : State) : State := { s with pointer := 0 }

/-- The state after the arbiter has granted lane `l`: the pointer names the requester that follows it (R142). -/
def State.laneGranted (s : State) (l : LaneId) : State := { s with pointer := Fin.castSucc l + 1 }

/-- The state after the refusal report has been handed a refused request: HOLDING it where it was EMPTY, with REFUSAL
raised, and with "more" set where it was HOLDING (R152). The locator is the slot for a request that names one. -/
def State.reported (s : State) (l : LaneId) (r : Request) (why : Reason) : State :=
  match s.attn.report with
  | some _ => { s with attn := { s.attn with more := true } }
  | none =>
    { s with
      attn :=
        { s.attn with
          causes := s.attn.causes ||| 0x20#8
          report :=
            some { lane := l, agent := r.agent, kind := r.kind, tag := r.tag,
                   locator := if 3 ≤ r.kind.toNat ∧ r.kind.toNat ≤ 6 then r.slot.setWidth 36 else r.address,
                   length := if 3 ≤ r.kind.toNat ∧ r.kind.toNat ≤ 6 then 0 else r.length,
                   reason := why, stamp := s.timebase.stamp } } }

/-- The state after lane `l`'s request, granted by the arbiter, has been given an answer: the answer holder is full, the
request holder empty and the lane ANSWERED (R137). -/
def State.laneAnswered (s : State) (l : LaneId) (a : Answer) : State :=
  s.putLane l { s.lane l with state := .answered, request := none, answer := some a }

/-- The state after lane `l`'s request has been refused: reported unless NOT_READY, and answered REFUSED with its kind and
tag, the reason, and the slot where the answer carries one (R56, R102, R152). -/
def State.laneRefused (s : State) (l : LaneId) (r : Request) (why : Reason) (slot : Option Byte) : State :=
  (if why = .notReady then s.laneGranted l else (s.laneGranted l).reported l r why).laneAnswered l
    { kind := r.kind, tag := r.tag, outcome := .refused, reason := some why, slot := slot, entry := none,
      laneMask := none }

/-- An entry that has ended with an outcome, its notice pending (R107, R108, R114, R115). -/
def Entry.gone (e : Entry) (o : EOutcome) : Entry :=
  { e with state := .ended, countdown := none, arrival := 0, outcome := some o, noticePending := true }

/-- Every gate follows the one change of state of its bound slot between two states of the part (R24, R145). -/
def State.GatesReported (s t : State) : Prop :=
  ∀ g : GateId,
    t.gate g
      = match (s.gate g).binding with
        | none => s.gate g
        | some j => (s.gate g).report j (s.window j).state (t.window j).state

/-- From `s` to `t` the WAITING entries naming the slots, and the HELD ones too where `held` says so, end as WINDOW_GONE;
their agents' claims in use count them no more; every other entry and record is kept (R107, R108). -/
def State.ClaimsGone (s t : State) (slots : List SlotId) (held : Bool) : Prop :=
  let goes := fun i : EntryId =>
    ((s.entry i).state == .waiting || held && (s.entry i).state == .held) && slots.contains (s.entry i).slot
  (∀ i, t.entry i = if goes i then (s.entry i).gone .windowGone else s.entry i)
    ∧ ∀ a, t.agent a
        = { s.agent a with
            inUse := (s.agent a).inUse - (List.finRange 48).countP fun i => goes i && (s.entry i).agent == a }

/-- From `s` to `t` the slots become FREE, with every WAITING and HELD entry naming them ended, and nothing else changes
but the gates that follow (R108, R126). -/
def State.FreedTo (s t : State) (slots : List SlotId) : Prop :=
  t = { s with windows := t.windows, gates := t.gates, entries := t.entries, agents := t.agents }
    ∧ (∀ j, t.window j = if j ∈ slots then Window.free else s.window j)
    ∧ s.ClaimsGone t slots true ∧ s.GatesReported t

/-- From `s` to `t` the slots become DRAINING, the drain count loaded at slot `h`, with every WAITING entry naming them
ended, and nothing else changes but the gates that follow (R107, R122). -/
def State.DrainedTo (s t : State) (h : SlotId) (slots : List SlotId) : Prop :=
  t = { s with windows := t.windows, gates := t.gates, entries := t.entries, agents := t.agents }
    ∧ (∀ j, t.window j
        = if j ∈ slots then
            { s.window j with
              state := .draining, drainCount := if j = h then s.drainLimit else (s.window j).drainCount }
          else s.window j)
    ∧ s.ClaimsGone t slots false ∧ s.GatesReported t

/-- The field block `merged` is `kept` with the groups that `select` names taken from `carried`: GEOMETRY, ACCESS, CLAIMS,
LEASE, IDLE and WALK by bits 0 to 5 (R12, 12.3). The flag bits go with their groups; bits 7:5, which belong to none, are
the carried ones but for an empty selection (R16, R172; assumption 9). -/
def FieldBlock.MergesTo (select : Byte) (carried kept merged : FieldBlock) : Prop :=
  let grp := fun g : Nat => if select.getLsbD g then carried else kept
  merged
      = { base := (grp 0).base, granule := (grp 0).granule, span := (grp 0).span
          access := (grp 1).access, rights := (grp 1).rights, laneMask := (grp 1).laneMask
          claimLimit := (grp 2).claimLimit, holdLimit := (grp 2).holdLimit
          leaseMode := (grp 3).leaseMode, leaseReload := (grp 3).leaseReload, expiryAction := (grp 3).expiryAction
          idleLimit := (grp 4).idleLimit
          flags := merged.flags
          walkStart := (grp 5).walkStart, stride := (grp 5).stride, stepLimit := (grp 5).stepLimit }
    ∧ ∀ i, i < 8 →
        merged.flags.getLsbD i
          = (if i = 0 then grp 2 else if i = 1 then grp 4 else if i ≤ 4 then grp 5
              else if select = 0 then kept else carried).flags.getLsbD i

/-- A WINDOW MODIFY of slot `k` passes its checks before those of the fields (R16). -/
def State.ModifyFits (s : State) (k : SlotId) (select : Byte) (b : FieldBlock) : Prop :=
  select.toNat ≤ 63
    ∧ ((s.window k).state = .staged ∨ (s.window k).state = .opened ∨ (s.window k).state = .frozen)
    ∧ ¬ ((s.window k).role = .member ∧ select.getLsbD 3 = true)
    ∧ ((s.window k).state ≠ .staged →
        select.getLsbD 0 = false ∧ select.getLsbD 5 = false
          ∧ (select.getLsbD 3 = true → (s.window k).leaseMode.code = b.leaseMode))

/-- A lookup on lane `l` passes every check, with slot `k` selected (R43 to R51). -/
def State.LookupPasses (s : State) (l : LaneId) (r : Request) (write : Bool) (k : SlotId) : Prop :=
  let w := s.window k
  w.state = .opened ∧ s.service = .ready ∧ (s.agent r.agent).enabled = true ∧ (s.agent r.agent).lane = l
    ∧ 1 ≤ r.length.toNat ∧ r.length.toNat ≤ 4096
    ∧ w.base ≤ r.address.toNat ∧ r.address.toNat + r.length.toNat ≤ w.base + w.span * 2 ^ w.granule
    ∧ r.address.toNat + r.length.toNat ≤ 2 ^ 36
    ∧ (∀ j : SlotId, j < k →
        (s.window j).state = .free ∨ (s.window j).state = .staged ∨ (s.window j).state = .armed
          ∨ r.address.toNat < (s.window j).base
          ∨ (s.window j).base + (s.window j).span * 2 ^ (s.window j).granule ≤ r.address.toNat)
    ∧ (∀ i, (r.address.toNat - w.base) / 2 ^ w.granule ≤ i →
        i ≤ (r.address.toNat + r.length.toNat - 1 - w.base) / 2 ^ w.granule → w.activeMap.getLsbD i = true)
    ∧ (w.rights[(s.agent r.agent).cls] = .readWrite ∨ (write = false ∧ w.rights[(s.agent r.agent).cls] = .read))
    ∧ (w.access = .claimed →
        ∃ i : EntryId, (s.entry i).state = .held ∧ (s.entry i).agent = r.agent ∧ (s.entry i).slot = k
          ∧ ((s.entry i).kind = .write ∨ write = false))

/-! ### Gates -/

/-- A bound LEVEL gate is ACTIVE exactly while its slot is OPEN, and an unbound gate is INACTIVE (R24, R144, R145). -/
def GatesFollow (s : State) : Prop :=
  ∀ g : GateId,
    match (s.gate g).binding with
    | none => (s.gate g).active = false
    | some k => (s.gate g).mode = .level → ((s.gate g).active = true ↔ (s.window k).state = .opened)

/-- A bound TOGGLE gate is ACTIVE only while its slot is OPEN (R24, R145). -/
def TogglesQuiet (s : State) : Prop :=
  ∀ (g : GateId) (k : SlotId),
    (s.gate g).binding = some k → (s.gate g).mode = .toggle → (s.gate g).active = true → (s.window k).state = .opened

/-! ### Windows -/

/-- A present walk within its ranges against the granule, span and step count of its record (R9, R14, R26). -/
def Walk.InRange (k : Walk) (w : Window) : Prop :=
  k.start % 2 ^ w.granule = 0 ∧ k.start + w.span * 2 ^ w.granule ≤ 2 ^ 36 ∧ w.granule ≤ k.stride ∧ k.stride ≤ 28
    ∧ 1 ≤ k.stepLimit ∧ k.stepLimit ≤ 4095 ∧ w.stepCount ≤ k.stepLimit

/-- A window record keeps its ranges (R4 to R9, R11, R14), its base stays aligned and its span within the address space
(R26), its maps agree while no shadow is pending (R32), an OPEN lease has a count left (R68), and an ARMED lease is TIMED
(R65). -/
def Window.InRange (w : Window) : Prop :=
  (6 ≤ w.granule ∧ w.granule ≤ 24) ∧ (1 ≤ w.span ∧ w.span ≤ 256)
    ∧ w.base % 2 ^ w.granule = 0 ∧ w.base + w.span * 2 ^ w.granule ≤ 2 ^ 36
    ∧ w.laneMask ≠ 0 ∧ (1 ≤ w.claimLimit ∧ w.claimLimit ≤ 15) ∧ w.holdLimit ≤ 255
    ∧ (1 ≤ w.leaseReload ∧ w.leaseReload ≤ 65535) ∧ w.leaseCount ≤ 65535
    ∧ (w.state = .opened → w.leaseMode ≠ .none → 1 ≤ w.leaseCount)
    ∧ (w.state = .armed → w.role ≠ .member → w.leaseMode = .timed)
    ∧ (w.role = .member → w.leaseMode = .none)
    ∧ (∀ n, w.idleLimit = some n → 1 ≤ n ∧ n ≤ 255) ∧ w.idleCount ≤ 255
    ∧ (∀ k, w.walk = some k → k.InRange w) ∧ (w.walk = none → w.stepCount = 0)
    ∧ (w.state = .staged ∨ w.state = .armed → w.stepCount = 0)
    ∧ w.drainCount ≤ 255
    ∧ (w.state = .armed ∨ w.state = .opened ∨ w.state = .frozen → w.shadowPending = false → w.shadowMap = w.activeMap)

/-- Every window that is not FREE keeps its ranges. -/
def WindowsInRange (s : State) : Prop := ∀ k : SlotId, (s.window k).state ≠ .free → (s.window k).InRange

/-- Every MEMBER stands in a group: the nearest slot below that holds no MEMBER holds a HEAD, at most seven slots below
(R80, R82), in the same state, but that a member may be FROZEN while its head is OPEN (R81). -/
def GroupsAgree (s : State) : Prop :=
  ∀ k : SlotId, (s.window k).isMember = true →
    (s.window (s.owner k)).isHead = true ∧ k.val ≤ (s.owner k).val + 7
      ∧ ((s.window k).state = (s.window (s.owner k)).state
        ∨ ((s.window k).state = .frozen ∧ (s.window (s.owner k)).state = .opened))

/-! ### The Timebase, the pulse lines and the load -/

/-- A line's run count stays below the number of samples of its setting (R34, R35). -/
def LineState.InRange (l : LineState) : Prop := l.run < l.setting.width

/-- The Timebase (R59), the drain limit (R127), the held settings record (R166), the attempts (R163, R164) and the run
counts (R34) keep their ranges. -/
def PartInRange (s : State) : Prop :=
  (1 ≤ s.timebase.divider ∧ s.timebase.divider ≤ 65536) ∧ s.timebase.subTick < s.timebase.divider
    ∧ (s.timebase.running = false → s.timebase.subTick = 0)
    ∧ (s.timebase.restarted = true → s.timebase.running = true ∧ s.timebase.subTick = 0)
    ∧ (1 ≤ s.drainLimit ∧ s.drainLimit ≤ 255)
    ∧ (∀ h, s.loader.settings = some h →
        1 ≤ h.divider ∧ h.divider ≤ 65536 ∧ 1 ≤ h.drainLimit ∧ h.drainLimit ≤ 255)
    ∧ s.loader.result.attempts ≤ 4 ∧ (s.loader.phase = .busCheck → s.loader.result.attempts < 4)
    ∧ s.pairA.restartLine.InRange ∧ s.pairA.advanceLine.InRange ∧ s.pairB.restartLine.InRange
    ∧ s.pairB.advanceLine.InRange

/-- The service state is LOADING exactly while a load is in progress, which is while the load result is PENDING; no load
is in progress while RST_N is low; and a start condition with no stop since stands while the image is addressed and read, and
none does in a bus check or without a load (R162 to R164). -/
def LoadingAgrees (s : State) : Prop :=
  (s.service = .loading ↔ s.loader.phase ≠ .idle) ∧ (s.loader.phase ≠ .idle ↔ s.loader.result.outcome = .pending)
    ∧ (s.rstLow = true → s.loader.phase = .idle)
    ∧ (s.loader.phase = .addressing ∨ s.loader.phase = .settings ∨ (∃ i, s.loader.phase = .record i)
          ∨ s.loader.phase = .ending → s.loader.started = true)
    ∧ (s.loader.phase = .idle ∨ s.loader.phase = .busCheck → s.loader.started = false)

/-! ### Claims -/

/-- The number of WAITING and HELD entries of an agent (R96). -/
def State.liveCount (s : State) (a : AgentId) : Nat :=
  (List.finRange 48).countP fun i => (s.entry i).live && (s.entry i).agent == a

/-- Every agent's claims in use counts its WAITING and HELD entries and is at most its quota, which is at most 8; a
disabled agent has no entry that is not FREE (R96, R130). -/
def AgentsCounted (s : State) : Prop :=
  ∀ a : AgentId,
    (s.agent a).inUse = s.liveCount a ∧ (s.agent a).inUse ≤ (s.agent a).quota ∧ (s.agent a).quota ≤ 8
      ∧ ((s.agent a).enabled = false → ∀ i, (s.entry i).state ≠ .free → (s.entry i).agent ≠ a)

/-- The arrival numbers of each wait queue lie between 1 and its length without a repeat, and every other entry has
arrival number 0 (R94, R97). -/
def QueuesOrdered (s : State) : Prop :=
  (∀ i, (s.entry i).state = .waiting →
      1 ≤ (s.entry i).arrival ∧ (s.entry i).arrival ≤ s.waitingCount (s.entry i).slot)
    ∧ (∀ i j, (s.entry i).state = .waiting → (s.entry j).state = .waiting → (s.entry i).slot = (s.entry j).slot →
        (s.entry i).arrival = (s.entry j).arrival → i = j)
    ∧ ∀ i, (s.entry i).state ≠ .waiting → (s.entry i).arrival = 0

/-- No agent has two WAITING or HELD entries that name the same window (R99). -/
def ClaimsDistinct (s : State) : Prop :=
  ∀ i j : EntryId, (s.entry i).live = true → (s.entry j).live = true → (s.entry i).agent = (s.entry j).agent →
    (s.entry i).slot = (s.entry j).slot → i = j

/-- A WAITING entry names a window that is OPEN or FROZEN, a HELD one a window that is OPEN, FROZEN or DRAINING (R106). -/
def ClaimsFit (s : State) : Prop :=
  ∀ i : EntryId,
    ((s.entry i).state = .waiting →
        (s.window (s.entry i).slot).state = .opened ∨ (s.window (s.entry i).slot).state = .frozen)
      ∧ ((s.entry i).state = .held →
          (s.window (s.entry i).slot).state = .opened ∨ (s.window (s.entry i).slot).state = .frozen
            ∨ (s.window (s.entry i).slot).state = .draining)

/-- No window has more HELD entries than its claim limit, and a HELD WRITE entry is the only HELD one (R103). -/
def HoldersFit (s : State) : Prop :=
  ∀ k : SlotId, s.heldCount k ≤ (s.window k).claimLimit ∧ (s.writeHeld k = true → s.heldCount k = 1)

/-! ### Lanes -/

/-- A lane holds at most one request (R136): it is WAITING exactly while its request holder is full, ANSWERED exactly
while its answer holder is, holds words only while IDLE, at most two, and offers an answer only from the holder (R138). -/
def Lane.Agrees (x : Lane) : Prop :=
  (x.state = .waiting ↔ x.request.isSome = true) ∧ (x.state = .answered ↔ x.answer.isSome = true)
    ∧ (x.words ≠ [] → x.state = .idle) ∧ x.words.length ≤ 2 ∧ (x.channel = .answer → x.answer.isSome = true)

/-- Every lane agrees with itself. -/
def LanesAgree (s : State) : Prop := ∀ l : LaneId, (s.lane l).Agrees

end Sys2Proof.Machine
end

