-- ==== Sys2Proof/Certificates/Slice0/Obligations.lean ====
section
/-! DEFINITION. The statements about the part, for the provers. Each names the rules of spec/ it rests on; a statement
about a command concludes that the command answers a next state, and says the whole of that state where it can. -/

open Sys2Proof Sys2Proof.Machine

/-! ### The queue and the step -/

/-- A step takes the command at the front of the queue and answers what it answers on the rest (the model's queue, log
24). -/
def Obligations.StepTakesFrontCommand : Prop :=
  ∀ (c : Instr) (rest : List Instr) (s : State), s.pending = c :: rest → step s = exec c { s with pending := rest }

/-- No command stops the part: each answers a next state, with the queue as it was (log 2). -/
def Obligations.EveryCommandAnswersNext : Prop := ∀ (c : Instr) (s : State), ∃ t, exec c s = .next t ∧ t.pending = s.pending

/-- On an empty queue one REFCLK period passes at the Timebase (the model's choice, log 3): STOPPED, nothing; RUNNING, the
sub-tick count advances, and at the divider the interval ends with its tick (R60); while RST_N is low, nothing. -/
def Obligations.IdleStepIsOneRefclkPeriod : Prop :=
  ∀ s : State, s.pending = [] →
    (s.rstLow = true ∨ s.timebase.running = false → step s = .next s)
    ∧ (s.rstLow = false → s.timebase.running = true → s.timebase.subTick + 1 < s.timebase.divider →
        step s
          = .next { s with timebase := { s.timebase with subTick := s.timebase.subTick + 1, restarted := false } })
    ∧ (s.rstLow = false → s.timebase.running = true → s.timebase.divider ≤ s.timebase.subTick + 1 →
        step s
          = .next
              { s with
                timebase :=
                  { s.timebase with
                    subTick := 0, restarted := false, stamp := s.timebase.stamp + 1,
                    windowTicks := s.timebase.windowTicks + 1, claimTicks := s.timebase.claimTicks + 1 } })

/-- The Table Arbiter serves the first waiting requester in circular order from the pointer, and nobody only when nobody
waits; a lane waits in WAITING, and the management port while it holds a command that does not go direct (R142, R158). A
grant moves the pointer to the requester after the one granted (R142). -/
def Obligations.ArbiterServesInCircularOrder : Prop :=
  ∀ s : State,
    let waits := fun q : Requester =>
      (∃ l : LaneId, q = Fin.castSucc l ∧ (s.lane l).state = .waiting)
        ∨ (q = 4 ∧ ∃ c, s.port.held = some c ∧ (∀ divider flags run, c ≠ .timebase divider flags run)
            ∧ (∀ enables qualification, c ≠ .pulseSet enables qualification) ∧ c ≠ .loadAbort)
    (∀ q, s.arbiterChoice = some q ↔ waits q ∧ ∀ d : Requester, d < q - s.pointer → ¬ waits (s.pointer + d))
    ∧ (s.arbiterChoice = none ↔ ∀ q, ¬ waits q)
    ∧ ∀ q, ∃ p : Requester, s.granted q = { s with pointer := p } ∧ p.val = (q.val + 1) % 5

/-! ### Reset (R162) -/

/-- DEVICE_RESET puts every block at the reset values that the rules give: R27, R34, R59, R94, R127, R130, R136, R141,
R142, R144, R149, R151, R152, R155, R159, R163. While RST_N is low, every event but the two of RST_N leaves the part as it
is, and TWC and TWD are released (R162; log 2). That State.reset has RST_N low, and its fields with no value in the rules,
are the model's, logs 1 and 12; so are the queue and the number of the next free value, which no reset changes, logs 24 and
18. -/
def Obligations.DeviceResetGivesResetValues : Prop :=
  (∀ s : State, exec .deviceReset s = .next { State.reset with naks := s.naks, pending := s.pending })
  ∧ (∀ (c : Instr) (s : State), s.rstLow = true → c ≠ .deviceReset → (∀ loaden imga, c ≠ .resetRelease loaden imga) →
      exec c s = .next s)
  ∧ (∀ s : State, s.rstLow = true → s.twoWire = (true, true))
  ∧ State.reset.rstLow = true ∧ State.reset.drainLimit = 16
  ∧ (∀ k : SlotId, (State.reset.window k).state = .free ∧ (State.reset.window k).activeMap = 0
      ∧ (State.reset.window k).shadowMap = 0 ∧ (State.reset.window k).shadowPending = false)
  ∧ (∀ i : EntryId, (State.reset.entry i).state = .free ∧ (State.reset.entry i).noticePending = false
      ∧ (State.reset.entry i).outcome = none ∧ (State.reset.entry i).countdown = none)
  ∧ (∀ a : AgentId, (State.reset.agent a).enabled = false ∧ (State.reset.agent a).cls = 0
      ∧ (State.reset.agent a).lane = 0 ∧ (State.reset.agent a).quota = 0 ∧ (State.reset.agent a).inUse = 0)
  ∧ (∀ l : LaneId, (State.reset.lane l).state = .idle ∧ (State.reset.lane l).words = []
      ∧ (State.reset.lane l).request = none ∧ (State.reset.lane l).answer = none
      ∧ (State.reset.lane l).channel = .free)
  ∧ State.reset.pointer = 0
  ∧ State.reset.timebase.divider = 10000 ∧ State.reset.timebase.running = false ∧ State.reset.timebase.subTick = 0
  ∧ State.reset.timebase.stamp = 0
  ∧ (∀ p : PulsePair, (State.reset.pair p).enabled = false ∧ (State.reset.pair p).restartLine.setting = .off
      ∧ (State.reset.pair p).advanceLine.setting = .off ∧ (State.reset.pair p).restartLine.run = 0
      ∧ (State.reset.pair p).advanceLine.run = 0)
  ∧ (∀ g : GateId, (State.reset.gate g).binding = none ∧ (State.reset.gate g).polarity = .activeHigh
      ∧ (State.reset.gate g).mode = .level ∧ (State.reset.gate g).unboundHigh = false
      ∧ (State.reset.gate g).active = false)
  ∧ State.reset.attn.causes = 0 ∧ State.reset.attn.enables = 0 ∧ State.reset.attn.expired = 0
  ∧ State.reset.attn.report = none ∧ State.reset.attn.more = false
  ∧ State.reset.port.held = none ∧ State.reset.port.buffer = none ∧ State.reset.port.respAvail = false
  ∧ State.reset.port.respOverwritten = false ∧ State.reset.port.discarded = false
  ∧ (∀ n, State.reset.port.msdoBit n = none)
  ∧ State.reset.loader.result.outcome = .none ∧ State.reset.loader.result.attempts = 0

/-- At the rising edge of RST_N the straps are sampled: LOADEN low enters READY, LOADEN high enters LOADING with a
load started, its result PENDING with no attempt made (R162, R163). The loader's other fields start at the model's
values, log 12. -/
def Obligations.ResetReleaseSamplesStraps : Prop :=
  ∀ (s : State) (imga : BitVec 3), s.rstLow = true →
    exec (.resetRelease false imga) s = .next { s with rstLow := false, imga := imga, service := .ready }
    ∧ exec (.resetRelease true imga) s
      = .next
          { s with
            rstLow := false
            imga := imga
            service := .loading
            loader :=
              { Loader.reset with
                result := { outcome := .pending, fault := none, attempts := 0 }, phase := .busCheck } }

/-! ### The management port (R154 to R160) -/

/-- A falling MSEL_N latches the status byte, whose bits 7 to 2 are BUSY, LOADING, RESP_AVAIL, RESP_OVERWRITTEN, DISCARDED
and ATTN as they stand, and bits 1:0 are 0 (R154, R155, 12.3). ATTN_N is low exactly while the ATTN flag is set, that is
while a cause is in both sets, and high while RST_N is low (R149). -/
def Obligations.FrameStartLatchesStatus : Prop :=
  (∀ s : State, s.rstLow = false → s.port.selected = false →
    exec .frameStart s
      = .next
          { s with
            port :=
              { s.port with
                selected := true, statusLatch := s.statusByte, copied := false, placedSinceCopy := false,
                shiftOut := [] } })
  ∧ (∀ s : State, s.attnPinHigh = false ↔ s.rstLow = false ∧ (s.attn.causes &&& s.attn.enables) ≠ 0)
  ∧ ∀ s : State,
      s.statusByte.getLsbD 7 = s.port.held.isSome ∧ s.statusByte.getLsbD 6 = (s.service == .loading)
        ∧ s.statusByte.getLsbD 5 = s.port.respAvail ∧ s.statusByte.getLsbD 4 = s.port.respOverwritten
        ∧ s.statusByte.getLsbD 3 = s.port.discarded
        ∧ s.statusByte.getLsbD 2 = ((s.attn.causes &&& s.attn.enables) != 0)
        ∧ s.statusByte.getLsbD 1 = false ∧ s.statusByte.getLsbD 0 = false

/-- The judging of a frame that is no READ RESPONSE, in the order of R156: zero length, discarded while BUSY (R160), an
incomplete code byte, an unknown code, a wrong length, LOADING, accepted. The frame's bits are those of whole bytes, most
significant bit first, and fewer than eight more (R154). -/
def Obligations.FrameEndIsJudged : Prop :=
  ∀ (s : State) (bytes : List Byte) (extra : List Bool), s.rstLow = false → s.port.selected = true →
    s.port.copied = false → extra.length < 8 → bytes.head? ≠ some 0x02 →
    let bits := bytes.flatMap fun b => (List.range 8).map fun i => b.getLsbD (7 - i)
    let closed := { s.port with selected := false, copied := false, placedSinceCopy := false }
    let refused := fun (code : Byte) (why : Reason) =>
      ({ s with
         port :=
           { closed with
             buffer := some { code := code, reason := some why, body := [] }
             respOverwritten := s.port.respOverwritten || s.port.respAvail
             respAvail := true
             discarded := false } } : State)
    (bytes = [] → extra = [] → exec (.frameEnd bits extra) s = .next { s with port := closed })
    ∧ (¬ (bytes = [] ∧ extra = []) → s.port.held ≠ none →
        exec (.frameEnd bits extra) s = .next { s with port := { closed with discarded := true } })
    ∧ (s.port.held = none → bytes = [] → extra ≠ [] → exec (.frameEnd bits extra) s = .next (refused 0 .frame))
    ∧ (∀ code ops, s.port.held = none → bytes = code :: ops → operandCount code = none →
        exec (.frameEnd bits extra) s = .next (refused code .badCommand))
    ∧ (∀ code ops n, s.port.held = none → bytes = code :: ops → operandCount code = some n →
        ops.length ≠ n ∨ extra ≠ [] → exec (.frameEnd bits extra) s = .next (refused code .frame))
    ∧ (∀ code ops n, s.port.held = none → bytes = code :: ops → operandCount code = some n → ops.length = n →
        extra = [] → s.service = .loading → code ≠ 0x01 → code ≠ 0x59 →
        exec (.frameEnd bits extra) s = .next (refused code .loading))
    ∧ (∀ code ops n, s.port.held = none → bytes = code :: ops → operandCount code = some n → ops.length = n →
        extra = [] → s.service = .ready ∨ code = 0x01 ∨ code = 0x59 →
        ∃ c, parseCommand code ops = some c
          ∧ exec (.frameEnd bits extra) s = .next { s with port := { closed with held := some c, discarded := false } })

/-- A READ RESPONSE frame: at its code byte the buffer is copied for shifting out; at its end RESP_OVERWRITTEN is
cleared, and RESP_AVAIL unless a response was placed since the copy; the buffer, BUSY and DISCARDED are kept (R157). A
frame without SHIFT_OUT_COPY before it copies at its end: the model's choice, log 17. MSDO shows the latched status byte,
then the shift-out register, then 0, each byte most significant bit first, and is undriven with no frame in progress (R154,
R157; after a frame that reset has abandoned, log 26). -/
def Obligations.ReadResponseReturnsBuffer : Prop :=
  (∀ s : State, s.rstLow = false → s.port.selected = true →
    let code := [false, false, false, false, false, false, true, false]
    (s.port.copied = false →
      exec .shiftOutCopy s
        = .next
            { s with
              port := { s.port with copied := true, shiftOut := (s.port.buffer.map Response.bytes).getD [] } })
    ∧ (∀ more, s.port.copied = true →
        exec (.readResponse (code ++ more)) s
          = .next
              { s with
                port :=
                  { s.port with
                    selected := false, copied := false, placedSinceCopy := false, respOverwritten := false,
                    respAvail := s.port.respAvail && s.port.placedSinceCopy } })
    ∧ (∀ more, s.port.copied = false → s.port.placedSinceCopy = false →
        exec (.readResponse (code ++ more)) s
          = .next
              { s with
                port :=
                  { s.port with
                    selected := false, respOverwritten := false, respAvail := false,
                    shiftOut := (s.port.buffer.map Response.bytes).getD [] } })
    ∧ ∀ more extra, more.length % 8 = 0 → extra.length < 8 →
        exec (.frameEnd (code ++ more) extra) s = exec (.readResponse (code ++ more)) s)
  ∧ ∀ s : State,
      (s.port.selected = true → ∀ k i, i < 8 →
        s.port.msdoBit (8 * k + i)
          = some ((if k = 0 then s.port.statusLatch else s.port.shiftOut.getD (k - 1) 0).getLsbD (7 - i)))
      ∧ (s.port.selected = false → ∀ n, s.port.msdoBit n = none)

/-- Every field stands on the wire where the tables of chapter 12 put it: each byte of a window field block at its offset,
most significant byte first, and read back from there (12.3); each field of a lane request at its bits, the others not read
(12.1, R171); each field of an answer and of a notice at its bits, every other bit 0 (12.1, R171); a response as its header
and body (12.3, R159); a number of several bytes most significant byte first; and every reason, value and cause by
its code (12.2), the line settings, polarities and gate modes by theirs (12.3), with the codes read as the values they name
and as none where they name none. -/
def Obligations.WireFieldsSpellBack : Prop :=
  (∀ b : FieldBlock,
    b.bytes
        = [b.base.extractLsb' 32 8, b.base.extractLsb' 24 8, b.base.extractLsb' 16 8, b.base.extractLsb' 8 8,
            b.base.extractLsb' 0 8, b.granule, b.span.extractLsb' 8 8, b.span.extractLsb' 0 8, b.access,
            b.rights.extractLsb' 8 8, b.rights.extractLsb' 0 8, b.laneMask, b.claimLimit, b.holdLimit, b.leaseMode,
            b.leaseReload.extractLsb' 8 8, b.leaseReload.extractLsb' 0 8, b.expiryAction, b.idleLimit, b.flags]
          ++ [b.walkStart.extractLsb' 32 8, b.walkStart.extractLsb' 24 8, b.walkStart.extractLsb' 16 8,
            b.walkStart.extractLsb' 8 8, b.walkStart.extractLsb' 0 8, b.stride, b.stepLimit.extractLsb' 8 8,
            b.stepLimit.extractLsb' 0 8]
      ∧ parseBlock b.bytes = b)
  ∧ (∀ (r : Request) (spare0 : BitVec 3) (spare2 : BitVec 15),
    decodeRequest
        (BitVec.ofNat 32
          (r.kind.toNat + r.agent.val * 2 ^ 4 + r.tag.toNat * 2 ^ 9 + r.slot.toNat * 2 ^ 13
            + r.waitLimit.toNat * 2 ^ 21 + spare0.toNat * 2 ^ 29))
        (BitVec.ofNat 32 (r.address.toNat % 2 ^ 32))
        (BitVec.ofNat 32 (r.address.toNat / 2 ^ 32 + r.length.toNat * 2 ^ 4 + spare2.toNat * 2 ^ 17))
      = r)
  ∧ (∀ a : Answer, (∀ why, a.reason = some why → why.code ≤ 17) →
    (a.word0.getLsbD 0 = false ∧ a.word0.extractLsb' 1 4 = a.kind ∧ a.word0.extractLsb' 5 4 = a.tag
      ∧ (a.word0.extractLsb' 9 3).toNat
          = (match a.outcome with
            | .granted => 0 | .queued => 1 | .busy => 2 | .released => 3 | .withdrawn => 4 | .renewed => 5
            | .refused => 6)
      ∧ (a.word0.extractLsb' 12 5).toNat = (a.reason.map Reason.code).getD 0
      ∧ a.word0.getLsbD 17 = a.slot.isSome ∧ a.word0.extractLsb' 18 8 = a.slot.getD 0 ∧ a.word0.extractLsb' 26 6 = 0)
    ∧ (a.word1.extractLsb' 0 6).toNat = (a.entry.map Fin.val).getD 0 ∧ a.word1.getLsbD 6 = a.entry.isSome
    ∧ a.word1.extractLsb' 7 8 = a.laneMask.getD 0 ∧ a.word1.getLsbD 15 = a.laneMask.isSome
    ∧ a.word1.extractLsb' 16 16 = 0)
  ∧ (∀ n : Notice,
    n.word0.getLsbD 0 = true ∧ (n.word0.extractLsb' 1 6).toNat = n.entry.val
      ∧ (n.word0.extractLsb' 7 6).toNat = n.slot.val ∧ n.word0.getLsbD 13 = (n.kind == .write)
      ∧ (n.word0.extractLsb' 14 2).toNat
          = (match n.outcome with
            | .granted => 0 | .waitExpired => 1 | .revoked => 2 | .windowGone => 3)
      ∧ n.word0.extractLsb' 16 16 = 0)
  ∧ (∀ l : Lane,
    (l.channel = .free → l.answerBus = none)
    ∧ (∀ a, l.channel = .answer → l.answer = some a → l.answerBus = some (a.word0, a.word1))
    ∧ ∀ n, l.channel = .notice n → l.answerBus = some (n.word0, 0))
  ∧ (∀ (code : Byte) (body : List Byte),
    ({ code := code, reason := none, body := body } : Response).bytes
        = [code, 0, 0, BitVec.ofNat 8 body.length] ++ body
      ∧ ∀ why : Reason, ({ code := code, reason := some why, body := [] } : Response).bytes
          = [code, 1, BitVec.ofNat 8 why.code, 0])
  ∧ ([.notReady, .agentOff, .wrongLane, .length, .noWindow, .frozen, .retiring, .split, .unmapped, .noRight, .notHeld,
        .badKind, .duplicate, .quota, .tableFull, .noLease, .group] : List Reason).map Reason.code
      = [1, 2, 3, 4, 5, 6, 7, 8, 9, 10, 11, 12, 13, 14, 15, 16, 17]
  ∧ ([.badSlot, .badEntry, .badAgent, .slotBusy, .state, .badField, .badSpan, .align, .claimsHeld, .loading, .frame,
        .badCommand, .notEmpty] : List Reason).map Reason.code
      = [32, 33, 34, 35, 36, 37, 38, 39, 40, 41, 42, 43, 44]
  ∧ ([.busBusy, .noDevice, .busHeld, .badHeader, .badLength, .badRecord, .badSum, .aborted] : List Reason).map Reason.code
      = [64, 65, 66, 67, 68, 69, 70, 71]
  ∧ (∀ n v : Nat, bytesOf n v = (List.range n).map fun i => BitVec.ofNat 8 (v / 256 ^ (n - 1 - i)))
  ∧ ([.free, .staged, .armed, .opened, .frozen, .draining] : List WState).map WState.code = [0, 1, 2, 3, 4, 5]
  ∧ ([.solo, .head, .member] : List Role).map Role.code = [0, 1, 2]
  ∧ ([.openAccess, .claimed] : List AccessMode).map AccessMode.code = [0, 1]
  ∧ ([.none, .read, .readWrite] : List Right).map Right.code = [0, 1, 2]
  ∧ ([.none, .timed, .uses] : List LeaseMode).map LeaseMode.code = [0, 1, 2]
  ∧ ([.retire, .freeze, .reload] : List ExpiryAction).map ExpiryAction.code = [0, 1, 2]
  ∧ ([.free, .waiting, .held, .ended] : List EState).map EState.code = [0, 1, 2, 3]
  ∧ ([.read, .write] : List ClaimKind).map ClaimKind.code = [0, 1]
  ∧ ([.granted, .waitExpired, .revoked, .windowGone] : List EOutcome).map EOutcome.code = [0, 1, 2, 3]
  ∧ ([.ready, .loading] : List Service).map Service.code = [0, 1]
  ∧ ([.none, .pending, .done, .failed] : List LoadOutcome).map LoadOutcome.code = [0, 1, 2, 3]
  ∧ [false, true].map yesNo = [0, 1]
  ∧ ([.expired, .idle, .revoked, .drainForced, .walkOverrun, .refusal, .loadDone, .loadFail] : List Cause).map Cause.bit
      = [0, 1, 2, 3, 4, 5, 6, 7]
  ∧ ([.off, .filter2, .filter4] : List Qualification).map Qualification.code = [0, 1, 2]
  ∧ ([.activeHigh, .activeLow] : List Polarity).map Polarity.code = [0, 1]
  ∧ ([.level, .toggle] : List GateMode).map GateMode.code = [0, 1]
  ∧ ([0, 1, 2] : List Byte).map roleOf = [some .solo, some .head, some .member]
  ∧ ([0, 1, 2] : List Byte).map leaseModeOf = [some .none, some .timed, some .uses]
  ∧ ([0, 1, 2] : List Byte).map expiryActionOf = [some .retire, some .freeze, some .reload]
  ∧ (∀ b : Byte, 2 < b.toNat → roleOf b = none ∧ leaseModeOf b = none ∧ expiryActionOf b = none)
  ∧ [0, 1, 2].map rightOf = [.none, .read, .readWrite]
  ∧ [0, 1, 2, 3].map qualificationOf = [some .off, some .filter2, some .filter4, none]

/-- The command frames of 12.3: each code with its operands in their order, and no code but these, spells its command, which
the port then holds; a field of more than one byte comes most significant byte first (R154, R156, 12.3). -/
def Obligations.CommandFramesSpellTheirCommands : Prop :=
  (∀ s : State, s.rstLow = false → s.port.selected = true → s.port.copied = false → s.port.held = none →
    s.service = .ready →
    let spells := fun (bytes : List Byte) (c : Instr) =>
      exec (.frameEnd (bytes.flatMap fun b => (List.range 8).map fun i => b.getLsbD (7 - i)) []) s
        = .next
            { s with
              port :=
                { s.port with
                  selected := false, copied := false, placedSinceCopy := false, held := some c, discarded := false } }
    (spells [0x01] .status ∧ spells [0x40] .clearAll ∧ spells [0x52] .readExpired ∧ spells [0x53] .reportRead
      ∧ spells [0x54] .reportClear ∧ spells [0x58] .reload ∧ spells [0x59] .loadAbort)
    ∧ (∀ x : Byte,
        spells [0x11, x] (.agentQuery x) ∧ spells [0x22, x] (.windowQuery x) ∧ spells [0x23, x] (.activate x)
          ∧ spells [0x24, x] (.disarm x) ∧ spells [0x25, x] (.freeze x) ∧ spells [0x26, x] (.thaw x)
          ∧ spells [0x32, x] (.mapCommit x) ∧ spells [0x38, x] (.claimQuery x) ∧ spells [0x42, x] (.settings x)
          ∧ spells [0x49, x] (.gatesSet x) ∧ spells [0x50, x] (.attentionEnable x))
    ∧ (∀ slot force : Byte, spells [0x28, slot, force] (.retire slot force))
    ∧ (∀ slot index selector : Byte, spells [0x31, slot, index, selector] (.mapRead slot index selector))
    ∧ (∀ enables qualification : Byte, spells [0x43, enables, qualification] (.pulseSet enables qualification))
    ∧ (∀ agent enabled cls lane quota : Byte,
        spells [0x10, agent, enabled, cls, lane, quota] (.agentSet agent enabled cls lane quota))
    ∧ (∀ gate bind slot polarity mode : Byte,
        spells [0x48, gate, bind, slot, polarity, mode] (.gateBind gate bind slot polarity mode))
    ∧ (∀ (slot : Byte) (count : BitVec 16),
        spells [0x27, slot, count.extractLsb' 8 8, count.extractLsb' 0 8] (.renew slot count))
    ∧ (∀ (divider : BitVec 16) (flags run : Byte),
        spells [0x41, divider.extractLsb' 8 8, divider.extractLsb' 0 8, flags, run] (.timebase divider flags run))
    ∧ (∀ (slot index : Byte) (word : Word32),
        spells
          [0x30, slot, index, word.extractLsb' 24 8, word.extractLsb' 16 8, word.extractLsb' 8 8, word.extractLsb' 0 8]
          (.mapWrite slot index word))
    ∧ (∀ (causes : Byte) (slots : BitVec 64),
        spells
          [0x51, causes, slots.extractLsb' 56 8, slots.extractLsb' 48 8, slots.extractLsb' 40 8, slots.extractLsb' 32 8,
            slots.extractLsb' 24 8, slots.extractLsb' 16 8, slots.extractLsb' 8 8, slots.extractLsb' 0 8]
          (.ack causes slots))
    ∧ ∀ (slot x : Byte) (b : FieldBlock),
        spells ([0x20, slot, x] ++ b.bytes) (.windowCreate slot x b)
          ∧ spells ([0x21, slot, x] ++ b.bytes) (.windowModify slot x b))
  ∧ ∀ code : Byte,
      operandCount code
        = (if code ∈ ([0x01, 0x40, 0x52, 0x53, 0x54, 0x58, 0x59] : List Byte) then some 0
          else if code ∈ ([0x11, 0x22, 0x23, 0x24, 0x25, 0x26, 0x32, 0x38, 0x42, 0x49, 0x50] : List Byte) then some 1
          else if code ∈ ([0x28, 0x43] : List Byte) then some 2
          else if code ∈ ([0x27, 0x31] : List Byte) then some 3
          else if code = 0x41 then some 4
          else if code ∈ ([0x10, 0x48] : List Byte) then some 5
          else if code = 0x30 then some 6
          else if code = 0x51 then some 9
          else if code ∈ ([0x20, 0x21] : List Byte) then some 30
          else none)

/-! ### Commands that only report -/

/-- AGENT QUERY returns the record and the number of ENDED entries; above 31 it is BAD_AGENT (R135). CLAIM QUERY
returns the fourteen bytes of the entry, all 0 for a FREE one; above 47 it is BAD_ENTRY (R118, 12.3). STATUS reports
the service state, the cause set, the FREE slots and entries and the load result, in nine bytes (R161, 12.3). WINDOW QUERY
is taken in every state: the 43 bytes of the record with its HELD and WAITING counts, all but the state 0 for a FREE slot;
above 63 it is BAD_SLOT (R19, 12.3). None changes anything but its own completion. The bytes of an absent countdown,
outcome, load failure, idle limit, walk or last hold read 0: the model's choice, log 8. -/
def Obligations.QueriesReport : Prop :=
  ((∀ (s : State) (agent : Byte), s.commandDue (.agentQuery agent) = true →
    (∀ a : AgentId, agentOf agent = some a →
      exec (.agentQuery agent) s
        = .next
            (s.portGranted.answered 0x11 none
              [yesNo (s.agent a).enabled, BitVec.ofNat 8 (s.agent a).cls.val, BitVec.ofNat 8 (s.agent a).lane.val,
               BitVec.ofNat 8 (s.agent a).quota, BitVec.ofNat 8 (s.agent a).inUse,
               BitVec.ofNat 8
                 ((List.finRange 48).countP fun i => (s.entry i).state == .ended && (s.entry i).agent == a)]))
    ∧ (31 < agent.toNat → exec (.agentQuery agent) s = .next (s.portGranted.answered 0x11 (some .badAgent) [])))
  ∧ ∀ (s : State) (entry : Byte), s.commandDue (.claimQuery entry) = true →
    (∀ i : EntryId, entryOf entry = some i → (s.entry i).state ≠ .free →
      exec (.claimQuery entry) s
        = .next
            (s.portGranted.answered 0x38 none
              ([(s.entry i).state.code, BitVec.ofNat 8 (s.entry i).agent.val, BitVec.ofNat 8 (s.entry i).slot.val,
                BitVec.ofNat 8 (s.entry i).kind.code] ++ bytesOf 4 (s.entry i).stamp.toNat
                ++ [yesNo (s.entry i).countdown.isSome, BitVec.ofNat 8 ((s.entry i).countdown.getD 0),
                    BitVec.ofNat 8 (s.entry i).arrival, yesNo (s.entry i).outcome.isSome,
                    BitVec.ofNat 8 (((s.entry i).outcome.map EOutcome.code).getD 0),
                    yesNo (s.entry i).noticePending])))
    ∧ (∀ i : EntryId, entryOf entry = some i → (s.entry i).state = .free →
        exec (.claimQuery entry) s = .next (s.portGranted.answered 0x38 none (List.replicate 14 0)))
    ∧ (47 < entry.toNat → exec (.claimQuery entry) s = .next (s.portGranted.answered 0x38 (some .badEntry) [])))
  ∧ (∀ s : State, s.commandDue .status = true →
    exec .status s
      = .next
          (s.portGranted.answered 0x01 none
            [s.service.code, s.attn.causes,
             BitVec.ofNat 8 ((List.finRange 64).countP fun k => (s.window k).state == .free),
             BitVec.ofNat 8 ((List.finRange 48).countP fun i => (s.entry i).state == .free),
             s.loader.result.outcome.code,
             BitVec.ofNat 8 (reasonCode (s.loader.result.fault.map LoadFault.reason)),
             BitVec.ofNat 8 ((s.loader.result.fault.bind LoadFault.index).getD 0),
             BitVec.ofNat 8 (reasonCode (s.loader.result.fault.bind LoadFault.why)),
             BitVec.ofNat 8 s.loader.result.attempts]))
  ∧ (∀ (s : State) (slot : Byte), s.commandDue (.windowQuery slot) = true →
      (∀ k : SlotId, slotOf slot = some k → (s.window k).state ≠ .free →
        exec (.windowQuery slot) s
          = .next
              (s.portGranted.answered 0x22 none
                ([(s.window k).state.code, (s.window k).role.code] ++ (s.window k).block.bytes
                  ++ bytesOf 2 (s.window k).leaseCount ++ [BitVec.ofNat 8 (s.window k).idleCount]
                  ++ bytesOf 2 (s.window k).stepCount
                  ++ [BitVec.ofNat 8
                        ((if (s.window k).overrun then 1 else 0) + (if (s.window k).shadowPending then 2 else 0)
                          + (if (s.window k).lastHold.isSome then 4 else 0)),
                      BitVec.ofNat 8 (s.window k).drainCount]
                  ++ bytesOf 4 ((s.window k).lastHold.getD 0).toNat
                  ++ [BitVec.ofNat 8
                        ((List.finRange 48).countP fun i => (s.entry i).state == .held && (s.entry i).slot == k),
                      BitVec.ofNat 8
                        ((List.finRange 48).countP fun i => (s.entry i).state == .waiting && (s.entry i).slot == k)])))
      ∧ (∀ k : SlotId, slotOf slot = some k → (s.window k).state = .free →
          exec (.windowQuery slot) s = .next (s.portGranted.answered 0x22 none (List.replicate 43 0)))
      ∧ (63 < slot.toNat → exec (.windowQuery slot) s = .next (s.portGranted.answered 0x22 (some .badSlot) [])))
  ∧ ∀ w : Window, w.InRange →
      w.block.base.toNat = w.base ∧ w.block.granule.toNat = w.granule ∧ w.block.span.toNat = w.span
        ∧ w.block.access = w.access.code ∧ (∀ c : ClassId, w.block.rights.toNat / 4 ^ c.val % 4 = (w.rights[c]).code)
        ∧ w.block.laneMask = w.laneMask ∧ w.block.claimLimit.toNat = w.claimLimit
        ∧ w.block.holdLimit.toNat = w.holdLimit ∧ w.block.leaseMode = w.leaseMode.code
        ∧ w.block.leaseReload.toNat = w.leaseReload ∧ w.block.expiryAction = w.expiryAction.code
        ∧ w.block.idleLimit.toNat = w.idleLimit.getD 0
        ∧ (∀ i, i < 8 →
            w.block.flags.getLsbD i
              = (if i = 0 then w.agentRenew else if i = 1 then w.idleLimit.isSome else if i = 2 then w.walk.isSome
                  else if i = 3 then (w.walk.map Walk.pair) == some .b
                  else if i = 4 then (w.walk.map Walk.commitAtRestart).getD false else false))
        ∧ w.block.walkStart.toNat = (w.walk.map Walk.start).getD 0
        ∧ w.block.stride.toNat = (w.walk.map Walk.stride).getD 0
        ∧ w.block.stepLimit.toNat = (w.walk.map Walk.stepLimit).getD 0

/-! ### Agents (R131 to R133) -/

/-- AGENT SET: the first failing check refuses it; with enabled yes and every check passed, the record is loaded with its
claims in use kept (R131, R132). -/
def Obligations.AgentSetChecksAndLoads : Prop :=
  ∀ (s : State) (agent enabled cls lane quota : Byte), s.commandDue (.agentSet agent enabled cls lane quota) = true →
    let refused := fun (why : Reason) =>
      exec (.agentSet agent enabled cls lane quota) s = .next (s.portGranted.answered 0x10 (some why) [])
    (31 < agent.toNat → refused .badAgent)
    ∧ (agent.toNat ≤ 31 → 1 < enabled.toNat ∨ 7 < cls.toNat ∨ 3 < lane.toNat ∨ 8 < quota.toNat → refused .badField)
    ∧ ∀ (a : AgentId) (c : ClassId) (l : LaneId), agentOf agent = some a → enabled = 1 → cls.toNat = c.val →
        lane.toNat = l.val → quota.toNat ≤ 8 →
        (((c ≠ (s.agent a).cls ∨ l ≠ (s.agent a).lane)
              ∧ (∃ i : EntryId, (s.entry i).state ≠ .free ∧ (s.entry i).agent = a))
            ∨ quota.toNat < (s.agent a).inUse → refused .claimsHeld)
        ∧ ((s.agent a).inUse ≤ quota.toNat →
            (c = (s.agent a).cls ∧ l = (s.agent a).lane)
              ∨ (∀ i : EntryId, (s.entry i).state ≠ .free → (s.entry i).agent ≠ a) →
            exec (.agentSet agent enabled cls lane quota) s
              = .next
                  ((s.portGranted.putAgent a
                      { enabled := true, cls := c, lane := l, quota := quota.toNat,
                        inUse := (s.agent a).inUse }).answered 0x10 none
                    [1, cls, lane, quota, BitVec.ofNat 8 (s.agent a).inUse]))

/-- AGENT SET with enabled no, in the steps of R133. First (`m`) every entry of the agent becomes FREE with no notice, the
WAITING entries of other agents behind one of its own move up, its claims in use are 0, and the carried fields are loaded;
then (`t`) each OPEN window that lost a WAITING or HELD entry runs a grant pass, and a DRAINING window or group that lost
its last HELD entry becomes FREE. No cause is raised, and everything else is kept. That an OPEN window which lost only a
WAITING entry behind the head of its queue runs a pass too, which may grant where a WINDOW MODIFY has raised the claim limit
since the last pass, is the model's choice, log 10: R133 also says that such a window grants nothing. A FREE slot's other
fields are the model's, log 13. -/
def Obligations.AgentDisableFreesItsEntries : Prop :=
  ∀ (s : State) (agent cls lane quota : Byte) (a : AgentId) (c : ClassId) (l : LaneId),
    s.commandDue (.agentSet agent 0 cls lane quota) = true → agentOf agent = some a → cls.toNat = c.val →
    lane.toNat = l.val → quota.toNat ≤ 8 →
    let lost := fun k : SlotId => ∃ i : EntryId, (s.entry i).agent = a ∧ (s.entry i).slot = k
      ∧ ((s.entry i).state = .waiting ∨ (s.entry i).state = .held)
    ∃ m t : State, exec (.agentSet agent 0 cls lane quota) s = .next (t.answered 0x10 none [0, cls, lane, quota, 0])
      ∧ m = { s.portGranted with agents := m.agents, entries := m.entries }
      ∧ m.agent a = { enabled := false, cls := c, lane := l, quota := quota.toNat, inUse := 0 }
      ∧ (∀ b, b ≠ a → m.agent b = s.agent b)
      ∧ (∀ i, (s.entry i).agent = a → (m.entry i).state = .free)
      ∧ (∀ i, (s.entry i).agent = a → (s.entry i).state ≠ .free → m.entry i = Entry.free)
      ∧ (∀ i, (s.entry i).agent ≠ a ∨ (s.entry i).state = .free → (s.entry i).state ≠ .waiting →
          m.entry i = s.entry i)
      ∧ (∀ i, (s.entry i).agent ≠ a → (s.entry i).state = .waiting →
          m.entry i = { s.entry i with arrival := (m.entry i).arrival }
            ∧ (QueuesOrdered s →
                (m.entry i).arrival
                  = (s.entry i).arrival - (List.finRange 48).countP fun j =>
                      (s.entry j).state == .waiting && (s.entry j).agent == a && (s.entry j).slot == (s.entry i).slot
                        && decide ((s.entry j).arrival < (s.entry i).arrival)))
      ∧ t = { m with windows := t.windows, gates := t.gates, entries := t.entries }
      ∧ (∀ i, (m.entry i).state ≠ .waiting → t.entry i = m.entry i)
      ∧ (GroupsAgree s → ∀ i,
          let passed := (s.window (m.entry i).slot).state = .opened ∧ lost (m.entry i).slot
          (passed → t.entry i = (m.grantPass (m.entry i).slot).entry i) ∧ (¬ passed → t.entry i = m.entry i))
      ∧ (GroupsAgree s → ∀ k,
          let goes := (s.window k).state = .draining ∧ (∃ j ∈ s.unitSlots (s.owner k), lost j)
            ∧ ∀ i, (m.entry i).state = .held → (m.entry i).slot ∉ s.unitSlots (s.owner k)
          (goes → t.window k = Window.free) ∧ (¬ goes → t.window k = s.window k))
      ∧ ((∀ k : SlotId, (s.window k).state ≠ .draining) → t.windows = s.windows ∧ t.gates = s.gates)
      ∧ s.GatesReported t

/-! ### Window fields and WINDOW CREATE (R12 to R15, R82) -/

/-- The field checks in the three passes of R12: a field outside its range or code of R14, in a group that is present, is
BAD_FIELD; a base or walk start off its granule is ALIGN; a span past the limits is BAD_SPAN; the first pass that fails
gives the reason, and a block that passes all three passes its checks (R12, R14, R172). -/
def Obligations.FieldChecksAreTheTable : Prop :=
  ∀ b : FieldBlock,
    let walks := b.flags.getLsbD 2 = true
    let bytes := b.span.toNat * 2 ^ b.granule.toNat
    let ranges :=
      (6 ≤ b.granule.toNat ∧ b.granule.toNat ≤ 24) ∧ (1 ≤ b.span.toNat ∧ b.span.toNat ≤ 256)
        ∧ b.base.toNat < 2 ^ 36 ∧ b.access.toNat ≤ 1
        ∧ (∀ c : ClassId, b.rights.toNat / 4 ^ c.val % 4 ≠ 3) ∧ b.laneMask ≠ 0
        ∧ (1 ≤ b.claimLimit.toNat ∧ b.claimLimit.toNat ≤ 15)
        ∧ (b.leaseMode.toNat = 0
            ∨ (b.leaseMode.toNat ≤ 2 ∧ 1 ≤ b.leaseReload.toNat ∧ b.expiryAction.toNat ≤ 2))
        ∧ (b.flags.getLsbD 1 = true → 1 ≤ b.idleLimit.toNat)
        ∧ (walks →
            b.walkStart.toNat < 2 ^ 36 ∧ b.granule.toNat ≤ b.stride.toNat ∧ b.stride.toNat ≤ 28
              ∧ 1 ≤ b.stepLimit.toNat ∧ b.stepLimit.toNat ≤ 4095)
        ∧ b.flags.toNat < 32
    let aligned := b.base.toNat % 2 ^ b.granule.toNat = 0 ∧ (walks → b.walkStart.toNat % 2 ^ b.granule.toNat = 0)
    let spans := bytes ≤ 2 ^ 32 ∧ b.base.toNat + bytes ≤ 2 ^ 36 ∧ (walks → b.walkStart.toNat + bytes ≤ 2 ^ 36)
    (¬ ranges → b.check = some .badField)
    ∧ (ranges → ¬ aligned → b.check = some .align)
    ∧ (ranges → aligned → ¬ spans → b.check = some .badSpan)
    ∧ (ranges → aligned → spans → b.check = none)

/-- WINDOW CREATE makes its checks in the order of R13 and is refused with the first that fails; a refused CREATE changes
nothing but its own completion. The group checks of a MEMBER are made against the slot below (R82). -/
def Obligations.WindowCreateChecksInOrder : Prop :=
  ∀ (s : State) (slot role : Byte) (b : FieldBlock), s.commandDue (.windowCreate slot role b) = true →
    let refused := fun (why : Reason) =>
      exec (.windowCreate slot role b) s = .next (s.portGranted.answered 0x20 (some why) [])
    (63 < slot.toNat → refused .badSlot)
    ∧ (slot.toNat ≤ 63 → 2 < role.toNat → refused .badField)
    ∧ (∀ k, slotOf slot = some k → role.toNat ≤ 2 → (s.window k).state ≠ .free → refused .slotBusy)
    ∧ (∀ k, slotOf slot = some k → role.toNat = 2 → (s.window k).state = .free →
        k.val = 0 ∨ (∃ j : SlotId, j.val + 1 = k.val ∧ ((s.window j).state = .free ∨ (s.window j).role = .solo)) →
        refused .group)
    ∧ (∀ k j, slotOf slot = some k → role.toNat = 2 → (s.window k).state = .free → j.val + 1 = k.val →
        (s.window j).state ≠ .free → (s.window j).role ≠ .solo → (s.window (s.owner j)).state ≠ .staged →
        refused .state)
    ∧ (∀ k j, slotOf slot = some k → role.toNat = 2 → (s.window k).state = .free → j.val + 1 = k.val →
        (s.window j).state ≠ .free → (s.window j).role ≠ .solo → (s.window (s.owner j)).state = .staged →
        k.val = (s.owner j).val + 8 ∨ b.leaseMode = 1 ∨ b.leaseMode = 2 → refused .group)
    ∧ (∀ k why, slotOf slot = some k → role.toNat ≤ 1 → (s.window k).state = .free → b.check = some why → refused why)
    ∧ (∀ k j why, slotOf slot = some k → role.toNat = 2 → (s.window k).state = .free → j.val + 1 = k.val →
        (s.window j).state ≠ .free → (s.window j).role ≠ .solo → (s.window (s.owner j)).state = .staged →
        k.val ≠ (s.owner j).val + 8 → b.leaseMode ≠ 1 → b.leaseMode ≠ 2 → b.check = some why → refused why)

/-- An accepted WINDOW CREATE makes the slot STAGED with the fields carried, counts 0, flags clear, the last hold absent,
the active map set on the span and the shadow map clear (R15), for SOLO, HEAD and MEMBER. -/
def Obligations.WindowCreateLoadsRecord : Prop :=
  ∀ (s : State) (slot role : Byte) (b : FieldBlock) (k : SlotId) (r : Role),
    s.commandDue (.windowCreate slot role b) = true → slotOf slot = some k → roleOf role = some r →
    (s.window k).state = .free → b.check = none →
    (r = .member →
      b.leaseMode = 0
        ∧ ∃ j : SlotId, j.val + 1 = k.val ∧ (s.window j).state ≠ .free ∧ (s.window j).role ≠ .solo
          ∧ (s.window (s.owner j)).state = .staged ∧ k.val ≠ (s.owner j).val + 8) →
    ∃ w : Window,
      exec (.windowCreate slot role b) s
        = .next ((s.portGranted.putWindow k w).answered 0x20 none [slot, WState.staged.code])
      ∧ w.state = .staged ∧ w.role = r
      ∧ w.base = b.base.toNat ∧ w.granule = b.granule.toNat ∧ w.span = b.span.toNat
      ∧ w.access = (if b.access = 0 then .openAccess else .claimed)
      ∧ (∀ c : ClassId, (w.rights[c]).code = b.rights.toNat / 4 ^ c.val % 4) ∧ w.laneMask = b.laneMask
      ∧ w.claimLimit = b.claimLimit.toNat ∧ w.holdLimit = b.holdLimit.toNat ∧ w.agentRenew = b.flags.getLsbD 0
      ∧ w.leaseMode.code = b.leaseMode
      ∧ (1 ≤ b.leaseReload.toNat → w.leaseReload = b.leaseReload.toNat)
      ∧ (b.leaseReload.toNat = 0 → w.leaseReload = 1)
      ∧ (b.expiryAction.toNat ≤ 2 → w.expiryAction.code = b.expiryAction)
      ∧ (2 < b.expiryAction.toNat → w.expiryAction = .retire)
      ∧ w.idleLimit = (if b.flags.getLsbD 1 then some b.idleLimit.toNat else none)
      ∧ w.walk
        = (if b.flags.getLsbD 2 then
            some { pair := if b.flags.getLsbD 3 then .b else .a, start := b.walkStart.toNat, stride := b.stride.toNat,
                   stepLimit := b.stepLimit.toNat, commitAtRestart := b.flags.getLsbD 4 }
          else none)
      ∧ w.leaseCount = 0 ∧ w.idleCount = 0 ∧ w.stepCount = 0 ∧ w.drainCount = 0
      ∧ w.overrun = false ∧ w.shadowPending = false ∧ w.lastHold = none
      ∧ (∀ i, i < 256 → w.activeMap.getLsbD i = decide (i < b.span.toNat)) ∧ w.shadowMap = 0

/-! ### WINDOW MODIFY (R16 to R18) -/

/-- The checks of WINDOW MODIFY in the order of R16: the slot, the select set, the state, LEASE on a member, a group that
cannot change in service, the field checks of the record as it would stand (FieldChecksAreTheTable says them), and the claim
limit against the HELD count. Each refusal changes nothing but its own completion. Which reserved flag bits those field
checks see is the model's choice, log 9. -/
def Obligations.WindowModifyChecksInOrder : Prop :=
  ∀ (s : State) (slot select : Byte) (b : FieldBlock), s.commandDue (.windowModify slot select b) = true →
    let refused := fun (why : Reason) =>
      exec (.windowModify slot select b) s = .next (s.portGranted.answered 0x21 (some why) [])
    (63 < slot.toNat → refused .badSlot)
    ∧ (slot.toNat ≤ 63 → 63 < select.toNat → refused .badField)
    ∧ (∀ k, slotOf slot = some k → select.toNat ≤ 63 →
        ((s.window k).state = .free ∨ (s.window k).state = .armed ∨ (s.window k).state = .draining → refused .state)
        ∧ ((s.window k).state = .staged ∨ (s.window k).state = .opened ∨ (s.window k).state = .frozen →
            ((s.window k).role = .member → select.getLsbD 3 = true → refused .group)
            ∧ (¬ ((s.window k).role = .member ∧ select.getLsbD 3 = true) → (s.window k).state ≠ .staged →
                select.getLsbD 0 = true ∨ select.getLsbD 5 = true
                  ∨ (select.getLsbD 3 = true ∧ (s.window k).leaseMode.code ≠ b.leaseMode) → refused .state)))
    ∧ ∀ (k : SlotId) (merged : FieldBlock), slotOf slot = some k → s.ModifyFits k select b →
        FieldBlock.MergesTo select b (s.window k).block merged →
        (∀ why, merged.check = some why → refused why)
        ∧ (merged.check = none → select.getLsbD 2 = true →
            b.claimLimit.toNat < (List.finRange 48).countP
              (fun i => (s.entry i).state == .held && (s.entry i).slot == k) → refused .claimsHeld)

/-- An accepted WINDOW MODIFY of the ACCESS and CLAIMS groups in service: rights, mode, mask and limits replaced, every
other field, every entry and every other table kept (R18); a claim limit below the HELD count is CLAIMS_HELD (R16). -/
def Obligations.WindowModifyAccessAndClaims : Prop :=
  ∀ (s : State) (slot : Byte) (b : FieldBlock) (k : SlotId),
    s.commandDue (.windowModify slot 0x06 b) = true → slotOf slot = some k →
    (s.window k).state = .staged ∨ (s.window k).state = .opened ∨ (s.window k).state = .frozen →
    (s.window k).InRange → b.access.toNat ≤ 1 → (∀ c : ClassId, b.rights.toNat / 4 ^ c.val % 4 ≠ 3) →
    b.laneMask ≠ 0 → 1 ≤ b.claimLimit.toNat → b.claimLimit.toNat ≤ 15 → b.flags.toNat < 32 →
    (b.claimLimit.toNat < (List.finRange 48).countP
          (fun i => (s.entry i).state == .held && (s.entry i).slot == k) →
      exec (.windowModify slot 0x06 b) s = .next (s.portGranted.answered 0x21 (some .claimsHeld) []))
    ∧ ((List.finRange 48).countP (fun i => (s.entry i).state == .held && (s.entry i).slot == k)
          ≤ b.claimLimit.toNat →
        ∃ rights : Vector Right 8, (∀ c : ClassId, (rights[c]).code = b.rights.toNat / 4 ^ c.val % 4)
          ∧ exec (.windowModify slot 0x06 b) s
            = .next
                ((s.portGranted.putWindow k
                    { s.window k with
                      access := if b.access = 0 then .openAccess else .claimed
                      rights := rights
                      laneMask := b.laneMask
                      claimLimit := b.claimLimit.toNat
                      holdLimit := b.holdLimit.toNat
                      agentRenew := b.flags.getLsbD 0 }).answered 0x21 none [slot, (s.window k).state.code]))

/-- An accepted WINDOW MODIFY of any select set, of a SOLO window, a HEAD or a MEMBER, loads the fields of each selected
group and keeps every other field: GEOMETRY, ACCESS, CLAIMS, LEASE, IDLE, which in OPEN and FROZEN loads the idle count too,
and WALK (R17, R18). Of the IDLE group alone it replaces the limit or makes it absent; of the LEASE group alone under the
same mode it replaces the reload and the action and keeps the count; and of every group of a STAGED SOLO window or HEAD it
loads each field as WINDOW CREATE would and keeps the rest (R17, R18). The reserved flag bits of the checked record are the
model's choice, log 9. -/
def Obligations.WindowModifyLeaseIdleAndAllGroups : Prop :=
  (∀ (s : State) (slot : Byte) (b : FieldBlock) (k : SlotId) (w : Window), slotOf slot = some k → w = s.window k →
    w.state = .staged ∨ w.state = .opened ∨ w.state = .frozen → w.InRange →
    let loaded := fun w' : Window =>
      (.next ((s.portGranted.putWindow k w').answered 0x21 none [slot, w.state.code]) : Result)
    (s.commandDue (.windowModify slot 0x10 b) = true → (b.flags.getLsbD 1 = true → 1 ≤ b.idleLimit.toNat) →
      b.flags.toNat < 32 →
      let limit := if b.flags.getLsbD 1 then some b.idleLimit.toNat else none
      exec (.windowModify slot 0x10 b) s
        = loaded
            { w with
              idleLimit := limit
              idleCount := if w.state = .staged then w.idleCount else limit.getD 0 })
    ∧ (s.commandDue (.windowModify slot 0x08 b) = true → w.role ≠ .member → b.leaseMode = w.leaseMode.code →
        (w.leaseMode ≠ .none → 1 ≤ b.leaseReload.toNat ∧ b.expiryAction.toNat ≤ 2) → b.flags.toNat < 32 →
        ∃ w' : Window, exec (.windowModify slot 0x08 b) s = loaded w'
          ∧ w' = { w with leaseReload := w'.leaseReload, expiryAction := w'.expiryAction }
          ∧ w'.leaseReload = (if b.leaseReload.toNat = 0 then 1 else b.leaseReload.toNat)
          ∧ (b.expiryAction.toNat ≤ 2 → w'.expiryAction.code = b.expiryAction)
          ∧ (2 < b.expiryAction.toNat → w'.expiryAction = .retire))
    ∧ (s.commandDue (.windowModify slot 0x3F b) = true → w.state = .staged → w.role ≠ .member → b.check = none →
        (∀ i : EntryId, (s.entry i).state = .held → (s.entry i).slot ≠ k) →
        exec (.windowModify slot 0x3F b) s
          = loaded
              { Window.create w.role b with
                leaseCount := w.leaseCount, idleCount := w.idleCount, stepCount := w.stepCount,
                drainCount := w.drainCount, overrun := w.overrun, activeMap := w.activeMap, shadowMap := w.shadowMap,
                shadowPending := w.shadowPending, lastHold := w.lastHold }))
  ∧ ∀ (s : State) (slot select : Byte) (b merged : FieldBlock) (k : SlotId) (w : Window),
    s.commandDue (.windowModify slot select b) = true → slotOf slot = some k → w = s.window k →
    s.ModifyFits k select b → FieldBlock.MergesTo select b w.block merged → merged.check = none →
    (select.getLsbD 2 = true →
      (List.finRange 48).countP (fun i => (s.entry i).state == .held && (s.entry i).slot == k) ≤ b.claimLimit.toNat) →
    let has := fun g : Nat => select.getLsbD g
    let limit := if b.flags.getLsbD 1 then some b.idleLimit.toNat else none
    ∃ w' : Window,
      exec (.windowModify slot select b) s
        = .next ((s.portGranted.putWindow k w').answered 0x21 none [slot, w.state.code])
      ∧ w' = { w with
                base := if has 0 then b.base.toNat else w.base
                granule := if has 0 then b.granule.toNat else w.granule
                span := if has 0 then b.span.toNat else w.span
                access := if has 1 then (if b.access = 0 then .openAccess else .claimed) else w.access
                rights := w'.rights
                laneMask := if has 1 then b.laneMask else w.laneMask
                claimLimit := if has 2 then b.claimLimit.toNat else w.claimLimit
                holdLimit := if has 2 then b.holdLimit.toNat else w.holdLimit
                agentRenew := if has 2 then b.flags.getLsbD 0 else w.agentRenew
                leaseMode := w'.leaseMode, leaseReload := w'.leaseReload, expiryAction := w'.expiryAction
                idleLimit := if has 4 then limit else w.idleLimit
                idleCount := if has 4 = true ∧ w.state ≠ .staged then limit.getD 0 else w.idleCount
                walk :=
                  if has 5 then
                    (if b.flags.getLsbD 2 then
                      some { pair := if b.flags.getLsbD 3 then .b else .a, start := b.walkStart.toNat,
                             stride := b.stride.toNat, stepLimit := b.stepLimit.toNat,
                             commitAtRestart := b.flags.getLsbD 4 }
                    else none)
                  else w.walk }
      ∧ (has 1 = true → ∀ c : ClassId, (w'.rights[c]).code = b.rights.toNat / 4 ^ c.val % 4)
      ∧ (has 1 = false → w'.rights = w.rights)
      ∧ (has 3 = true →
          w'.leaseMode.code = b.leaseMode
            ∧ w'.leaseReload = (if b.leaseReload.toNat = 0 then 1 else b.leaseReload.toNat)
            ∧ (b.expiryAction.toNat ≤ 2 → w'.expiryAction.code = b.expiryAction)
            ∧ (2 < b.expiryAction.toNat → w'.expiryAction = .retire))
      ∧ (has 3 = false →
          w'.leaseMode = w.leaseMode ∧ w'.leaseReload = w.leaseReload ∧ w'.expiryAction = w.expiryAction)

/-! ### Units: a window alone or a group (R80, R84 to R92) -/

/-- The slots that act together are the slot itself or, of a HEAD, the head and the members above it without a gap (R80).
Changing them changes no other slot and nothing but the bound gates, which follow each change of state in the same event:
LEVEL to OPEN, TOGGLE to INACTIVE where OPEN is entered or left (R24, R145). -/
def Obligations.UnitIsHeadAndItsMembers : Prop :=
  ∀ (s : State) (k : SlotId) (f : Window → Window),
    let slots := s.unitSlots k
    let t := s.modifyWindows slots f
    ((s.window k).isHead = false → slots = [k])
    ∧ ((s.window k).isHead = true →
        ∀ j, j ∈ slots ↔ j = k ∨ (k < j ∧ ∀ i, k < i → i ≤ j → (s.window i).isMember = true))
    ∧ (∀ j, t.window j = if j ∈ slots then f (s.window j) else s.window j)
    ∧ t = { s with windows := t.windows, gates := t.gates }
    ∧ (∀ g, (s.gate g).binding = none → t.gate g = s.gate g)
    ∧ (∀ g j, (s.gate g).binding = some j → (t.window j).state = (s.window j).state → t.gate g = s.gate g)
    ∧ (∀ g j, (s.gate g).binding = some j → (t.window j).state ≠ (s.window j).state → (s.gate g).mode = .level →
        t.gate g = { s.gate g with active := (t.window j).state == .opened })
    ∧ (∀ g j, (s.gate g).binding = some j → (t.window j).state ≠ (s.window j).state → (s.gate g).mode = .toggle →
        ((s.window j).state = .opened ∨ (t.window j).state = .opened → t.gate g = { s.gate g with active := false })
        ∧ ((s.window j).state ≠ .opened → (t.window j).state ≠ .opened → t.gate g = s.gate g))

/-- ACTIVATE on a STAGED SOLO window or HEAD: every slot of the unit copies its active map to its shadow map, goes to its
walk start, and becomes ARMED under a TIMED lease and OPEN otherwise, with a USES count loaded and the idle count loaded
(R20, R84). -/
def Obligations.ActivateStartsUnit : Prop :=
  ∀ (s : State) (slot : Byte) (k : SlotId), s.commandDue (.activate slot) = true → slotOf slot = some k →
    (s.window k).state = .staged → (s.window k).role ≠ .member →
    let placed := fun w : Window =>
      { w with
        shadowMap := w.activeMap, shadowPending := false, drainCount := 0
        base := (w.walk.map Walk.start).getD w.base
        stepCount := if w.walk.isSome then 0 else w.stepCount
        overrun := w.overrun && w.walk.isNone }
    let answer := fun (f : Window → Window) (state : Byte) =>
      ((s.portGranted.modifyWindows (s.unitSlots k) f).answered 0x23 none [slot, state] : State)
    ((s.window k).leaseMode = .timed →
      exec (.activate slot) s = .next (answer (fun w => { placed w with state := .armed }) 2))
    ∧ ((s.window k).leaseMode = .uses →
        exec (.activate slot) s
          = .next
              (answer
                (fun w =>
                  { placed w with
                    state := .opened
                    leaseCount := if w.leaseMode = .uses then w.leaseReload else w.leaseCount
                    idleCount := w.idleLimit.getD 0 }) 3))
    ∧ ((s.window k).leaseMode = .none →
        exec (.activate slot) s
          = .next (answer (fun w => { placed w with state := .opened, idleCount := w.idleLimit.getD 0 }) 3))

/-- DISARM returns every slot of an ARMED unit to STAGED and changes nothing else of it (R21, R85); FREEZE makes every OPEN
slot of an OPEN or FROZEN unit FROZEN, with its counts and entries kept (R22, R86). -/
def Obligations.DisarmAndFreezeActOnUnit : Prop :=
  ∀ (s : State) (slot : Byte) (k : SlotId), slotOf slot = some k → (s.window k).role ≠ .member →
    (s.commandDue (.disarm slot) = true → (s.window k).state = .armed →
      exec (.disarm slot) s
        = .next
            ((s.portGranted.modifyWindows (s.unitSlots k) fun w => { w with state := .staged }).answered 0x24 none
              [slot, 1]))
    ∧ (s.commandDue (.freeze slot) = true → (s.window k).state = .opened ∨ (s.window k).state = .frozen →
        exec (.freeze slot) s
          = .next
              ((s.portGranted.modifyWindows (s.unitSlots k) fun w =>
                  if w.state = .opened then { w with state := .frozen } else w).answered 0x25 none [slot, 4]))

/-- THAW: each FROZEN slot of the unit, in turn, becomes OPEN with its idle count loaded and a lease count of 0 reloaded,
and runs a grant pass on its queue; an OPEN slot is kept (R23, R87). Lanes, agents and causes are kept. -/
def Obligations.ThawReopensFrozenSlots : Prop :=
  ∀ (s : State) (slot : Byte) (k : SlotId), s.commandDue (.thaw slot) = true → slotOf slot = some k →
    (s.window k).role ≠ .member → (s.window k).state = .opened ∨ (s.window k).state = .frozen →
    let thawed := fun w : Window =>
      { w with
        state := .opened
        idleCount := w.idleLimit.getD 0
        leaseCount := if w.leaseMode ≠ .none ∧ w.leaseCount = 0 then w.leaseReload else w.leaseCount }
    let one := fun (t : State) (j : SlotId) =>
      if (t.window j).state = .frozen then (t.putWindow j (thawed (t.window j))).grantPass j else t
    let t := (s.unitSlots k).foldl one s.portGranted
    exec (.thaw slot) s = .next (t.answered 0x26 none [slot, 3])
      ∧ t = { s.portGranted with windows := t.windows, gates := t.gates, entries := t.entries }
      ∧ (∀ j, t.window j
          = if j ∈ s.unitSlots k ∧ (s.window j).state = .frozen then thawed (s.window j) else s.window j)
      ∧ (∀ i, (s.entry i).state ≠ .waiting → t.entry i = s.entry i)
      ∧ ∀ i, ¬ ((s.entry i).slot ∈ s.unitSlots k ∧ (s.window (s.entry i).slot).state = .frozen) →
          t.entry i = s.entry i

/-- RETIRE on a SOLO window or HEAD: an OPEN or FROZEN unit with a HELD entry and FORCE clear becomes DRAINING, its
drain count loaded at the head; any other becomes FREE (R90, R107, R108, R121, R122). On the last member of a STAGED
group it frees that member alone (R92). No cause is raised and the expired set is kept. A FREE slot's other fields are
0 and an entry ended so has no countdown: the model's, logs 13 and 7. -/
def Obligations.RetireDrainsOrFreesUnit : Prop :=
  ∀ (s : State) (slot force : Byte) (k : SlotId), s.commandDue (.retire slot force) = true → slotOf slot = some k →
    let held := ∃ i : EntryId, (s.entry i).state = .held ∧ (s.entry i).slot ∈ s.unitSlots k
    let inService := (s.window k).state = .opened ∨ (s.window k).state = .frozen
    ((s.window k).role ≠ .member → inService → held → force.getLsbD 0 = false →
      ∃ t : State, exec (.retire slot force) s = .next (t.answered 0x28 none [slot, 5, BitVec.ofNat 8 s.drainLimit])
        ∧ s.portGranted.DrainedTo t k (s.unitSlots k))
    ∧ ((s.window k).role ≠ .member →
        (inService ∧ (¬ held ∨ force.getLsbD 0 = true)) ∨ (s.window k).state = .staged ∨ (s.window k).state = .armed
          ∨ ((s.window k).state = .draining ∧ force.getLsbD 0 = true) →
        ∃ t : State, exec (.retire slot force) s = .next (t.answered 0x28 none [slot, 0, 0])
          ∧ s.portGranted.FreedTo t (s.unitSlots k))
    ∧ ((s.window k).isMember = true → (s.window (s.owner k)).state = .staged →
        (∀ j : SlotId, j.val = k.val + 1 → (s.window j).isMember = false) →
        ∃ t : State, exec (.retire slot force) s = .next (t.answered 0x28 none [slot, 0, 0])
          ∧ s.portGranted.FreedTo t [k])

/-- The refusals of ACTIVATE, DISARM, FREEZE, THAW, RENEW and RETIRE: BAD_SLOT, GROUP on a member, STATE, NO_LEASE (R20 to
R23, R76, R86, R87, R92, R121); and of the map commands: BAD_SLOT, BAD_FIELD, STATE (R28, R30, R31). Each changes nothing
but its own completion. -/
def Obligations.WindowCommandsRefused : Prop :=
  (∀ (s : State) (slot force : Byte) (count : BitVec 16),
    let refused := fun (c : Instr) (code : Byte) (why : Reason) =>
      s.commandDue c = true → exec c s = .next (s.portGranted.answered code (some why) [])
    let all := fun (why : Reason) =>
      refused (.activate slot) 0x23 why ∧ refused (.disarm slot) 0x24 why ∧ refused (.freeze slot) 0x25 why
        ∧ refused (.thaw slot) 0x26 why ∧ refused (.renew slot count) 0x27 why
    (63 < slot.toNat → all .badSlot ∧ refused (.retire slot force) 0x28 .badSlot)
    ∧ ∀ k : SlotId, slotOf slot = some k →
        ((s.window k).isMember = true → all .group)
        ∧ ((s.window k).isMember = false →
            ((s.window k).state ≠ .staged → refused (.activate slot) 0x23 .state)
            ∧ ((s.window k).state ≠ .armed → refused (.disarm slot) 0x24 .state)
            ∧ ((s.window k).state ≠ .opened → (s.window k).state ≠ .frozen →
                refused (.freeze slot) 0x25 .state ∧ refused (.thaw slot) 0x26 .state
                  ∧ refused (.renew slot count) 0x27 .state)
            ∧ ((s.window k).state = .opened ∨ (s.window k).state = .frozen → (s.window k).leaseMode = .none →
                refused (.renew slot count) 0x27 .noLease)
            ∧ ((s.window k).state = .free → refused (.retire slot force) 0x28 .state)
            ∧ ((s.window k).state = .draining → force.getLsbD 0 = false → refused (.retire slot force) 0x28 .state))
        ∧ ((s.window k).isMember = true →
            ((s.window (s.owner k)).state ≠ .staged
              ∨ ∃ j : SlotId, j.val = k.val + 1 ∧ (s.window j).isMember = true) →
            refused (.retire slot force) 0x28 .group))
  ∧ (∀ (s : State) (slot index selector : Byte) (word : Word32),
    let refused := fun (c : Instr) (code : Byte) (why : Reason) =>
      s.commandDue c = true → exec c s = .next (s.portGranted.answered code (some why) [])
    (63 < slot.toNat →
      refused (.mapWrite slot index word) 0x30 .badSlot ∧ refused (.mapRead slot index selector) 0x31 .badSlot
        ∧ refused (.mapCommit slot) 0x32 .badSlot)
    ∧ (slot.toNat ≤ 63 → 7 < index.toNat → refused (.mapWrite slot index word) 0x30 .badField)
    ∧ (slot.toNat ≤ 63 → 7 < index.toNat ∨ 1 < selector.toNat → refused (.mapRead slot index selector) 0x31 .badField)
    ∧ ∀ k : SlotId, slotOf slot = some k →
        (index.toNat ≤ 7 →
          (s.window k).state = .free ∨ (s.window k).state = .armed ∨ (s.window k).state = .draining →
          refused (.mapWrite slot index word) 0x30 .state)
        ∧ ((s.window k).state ≠ .opened → (s.window k).state ≠ .frozen → refused (.mapCommit slot) 0x32 .state))

/-! ### Coverage maps (R28 to R31) -/

/-- MAP WRITE replaces one word of the active map of a STAGED window, and one word of the shadow map of an OPEN or FROZEN
one with shadow pending set; MAP READ returns a word of the selected map in every state and changes nothing; MAP COMMIT
copies a pending shadow map into the active map (R28 to R31). -/
def Obligations.MapCommandsActOnOneSlot : Prop :=
  ∀ (s : State) (slot index selector : Byte) (word : Word32) (k : SlotId), slotOf slot = some k →
    let w := s.window k
    let written := fun (m n : BitVec 256) =>
      ∀ i, i < 256 → n.getLsbD i = if i / 32 = index.toNat then word.getLsbD (i % 32) else m.getLsbD i
    (s.commandDue (.mapWrite slot index word) = true → index.toNat ≤ 7 → w.state = .staged →
      ∃ m, written w.activeMap m
        ∧ exec (.mapWrite slot index word) s
          = .next ((s.portGranted.putWindow k { w with activeMap := m }).answered 0x30 none [1, 0]))
    ∧ (s.commandDue (.mapWrite slot index word) = true → index.toNat ≤ 7 → w.state = .opened ∨ w.state = .frozen →
        ∃ m, written w.shadowMap m
          ∧ exec (.mapWrite slot index word) s
            = .next
                ((s.portGranted.putWindow k { w with shadowMap := m, shadowPending := true }).answered 0x30 none
                  [w.state.code, 1]))
    ∧ (s.commandDue (.mapRead slot index selector) = true → index.toNat ≤ 7 → selector.toNat ≤ 1 →
        ∃ n : Word32,
          (∀ i, i < 32 → n.getLsbD i
              = (if selector.toNat = 0 then w.activeMap else w.shadowMap).getLsbD (32 * index.toNat + i))
          ∧ exec (.mapRead slot index selector) s
            = .next
                (s.portGranted.answered 0x31 none (bytesOf 4 n.toNat ++ [w.state.code, yesNo w.shadowPending])))
    ∧ (s.commandDue (.mapCommit slot) = true → w.state = .opened ∨ w.state = .frozen →
        (w.shadowPending = true →
          exec (.mapCommit slot) s
            = .next
                ((s.portGranted.putWindow k { w with activeMap := w.shadowMap, shadowPending := false }).answered 0x32
                  none [w.state.code, 0]))
        ∧ (w.shadowPending = false →
            exec (.mapCommit slot) s = .next (s.portGranted.answered 0x32 none [w.state.code, 1])))

/-! ### Commands for the whole part -/

/-- CLEAR ALL: every slot and every entry FREE with no notice, every claims in use 0, the expired set empty, and bound
gates inactive where their window was OPEN; everything else is kept (R128). SETTINGS loads the drain limit, and 0 is
BAD_FIELD (R127). A FREE slot's other fields are 0: the model's, log 13. -/
def Obligations.ClearAllAndSettings : Prop :=
  (∀ s : State, s.commandDue .clearAll = true →
    ∃ t : State, exec .clearAll s = .next (t.answered 0x40 none [])
      ∧ t = { s.portGranted with
              windows := t.windows, entries := t.entries, agents := t.agents, gates := t.gates,
              attn := { s.attn with expired := 0 } }
      ∧ (∀ k, t.window k = Window.free) ∧ (∀ i, t.entry i = Entry.free)
      ∧ (∀ a, t.agent a = { s.agent a with inUse := 0 }) ∧ s.GatesReported t)
  ∧ ∀ (s : State) (limit : Byte), s.commandDue (.settings limit) = true →
      (limit ≠ 0 →
        exec (.settings limit) s
          = .next (({ s.portGranted with drainLimit := limit.toNat } : State).answered 0x42 none [limit]))
      ∧ (limit = 0 → exec (.settings limit) s = .next (s.portGranted.answered 0x42 (some .badField) []))

/-- TIMEBASE acts on the Timebase direct, past the arbiter: load, run or stop, zero the stamp, and its answer carries
the Timebase as it then stands; an undefined run code is BAD_FIELD (R61). TICK ends an interval of a RUNNING Timebase:
the stamp counts it and each of the two blocks is handed one tick (R60), but that an end pending at a divider load of a
RUNNING Timebase is discarded (R62). That TICK may come at any sub-tick count, that it is the pending one until a REFCLK
period has passed, and that ticks handed over are counted, is the model's, logs 4 and 5. -/
def Obligations.TimebaseCommandAndTick : Prop :=
  (∀ (s : State) (divider : BitVec 16) (flags run : Byte), s.commandDue (.timebase divider flags run) = true →
    (2 < run.toNat → exec (.timebase divider flags run) s = .next (s.answered 0x41 (some .badField) []))
    ∧ (run.toNat ≤ 2 →
        let load := flags.getLsbD 0
        let tb : Timebase :=
          { s.timebase with
            divider := if load then (if divider = 0 then 65536 else divider.toNat) else s.timebase.divider
            running := if run = 1 then true else if run = 2 then false else s.timebase.running
            subTick :=
              if load = true ∨ run = 2 ∨ (run = 1 ∧ s.timebase.running = false) then 0 else s.timebase.subTick
            restarted :=
              if run = 2 ∨ (run = 1 ∧ s.timebase.running = false) then false
              else if load then s.timebase.running else s.timebase.restarted
            stamp := if flags.getLsbD 1 then 0 else s.timebase.stamp }
        exec (.timebase divider flags run) s
          = .next
              (({ s with timebase := tb } : State).answered 0x41 none
                (bytesOf 3 tb.divider ++ [yesNo tb.running] ++ bytesOf 4 tb.stamp.toNat))))
  ∧ ∀ s : State, s.rstLow = false → s.timebase.running = true →
      (s.timebase.restarted = false →
        exec .tick s
          = .next
              { s with
                timebase :=
                  { s.timebase with
                    subTick := 0, stamp := s.timebase.stamp + 1, windowTicks := s.timebase.windowTicks + 1,
                    claimTicks := s.timebase.claimTicks + 1 } })
      ∧ (s.timebase.restarted = true →
          exec .tick s = .next { s with timebase := { s.timebase with restarted := false } })

/-! ### Pulse lines and walking windows (R34 to R40) -/

/-- PULSE SET loads both enables and the four qualification settings, direct; a line whose setting it changes has its
run count set to 0 and keeps its qualified level; an undefined code is BAD_FIELD (R37). A sample of a line: the first
after RST_N rose loads the qualified level; later, OFF, FILTER2 and FILTER4 change the level at the first, second and
fourth successive sample that differs; and a rising edge on a line of an ENABLED pair hands the Window Table one
event, RESTART for FRA and FRB, ADVANCE for LNA and LNB (R34 to R36). The bits not read are 0 in the answer, and
events handed over are counted: the model's, logs 20 and 5. -/
def Obligations.PulseSettingsAndSamples : Prop :=
  (∀ (s : State) (enables q : Byte), s.commandDue (.pulseSet enables q) = true →
    let defined := q.toNat % 4 ≠ 3 ∧ q.toNat / 4 % 4 ≠ 3 ∧ q.toNat / 16 % 4 ≠ 3 ∧ q.toNat / 64 ≠ 3
    let set := fun (l : LineState) (code : Nat) =>
      let new : Qualification := if code = 0 then .off else if code = 1 then .filter2 else .filter4
      { l with setting := new, run := if l.setting = new then l.run else 0 }
    (¬ defined → exec (.pulseSet enables q) s = .next (s.answered 0x43 (some .badField) []))
    ∧ (defined →
        exec (.pulseSet enables q) s
          = .next
              (({ s with
                  pairA :=
                    { s.pairA with
                      enabled := enables.getLsbD 0
                      restartLine := set s.pairA.restartLine (q.toNat % 4)
                      advanceLine := set s.pairA.advanceLine (q.toNat / 4 % 4) }
                  pairB :=
                    { s.pairB with
                      enabled := enables.getLsbD 1
                      restartLine := set s.pairB.restartLine (q.toNat / 16 % 4)
                      advanceLine := set s.pairB.advanceLine (q.toNat / 64) } } : State).answered 0x43 none
                [enables &&& 3, q])))
  ∧ (∀ (s : State) (high : Bool), s.rstLow = false →
    let width := fun l : LineState => match l.setting with
      | .off => 1
      | .filter2 => 2
      | .filter4 => 4
    let new := fun l : LineState =>
      if l.sampled = false then { l with sampled := true, high := high, run := 0 }
      else if high = l.high then { l with run := 0 }
      else if width l ≤ l.run + 1 then { l with high := high, run := 0 }
      else { l with run := l.run + 1 }
    let event := fun (p : PairState) (l : LineState) =>
      if p.enabled = true ∧ l.sampled = true ∧ l.high = false ∧ high = true ∧ width l ≤ l.run + 1 then 1 else 0
    let restart := fun p : PairState =>
      { p with restartLine := new p.restartLine, restarts := p.restarts + event p p.restartLine }
    let advance := fun p : PairState =>
      { p with advanceLine := new p.advanceLine, advances := p.advances + event p p.advanceLine }
    exec (.pulseLineSample .fra high) s = .next { s with pairA := restart s.pairA }
      ∧ exec (.pulseLineSample .lna high) s = .next { s with pairA := advance s.pairA }
      ∧ exec (.pulseLineSample .frb high) s = .next { s with pairB := restart s.pairB }
      ∧ exec (.pulseLineSample .lnb high) s = .next { s with pairB := advance s.pairB })

/-- A pulse event reaches each OPEN or FROZEN window that walks with its pair and no other. RESTART returns it to its
walk start with step count 0, and commits a pending shadow map where the walk says so; ADVANCE moves it one stride, or
sets its overrun flag and raises WALK_OVERRUN at the step limit or the end of the address space (R38 to R40). That a
pulse event waits in a count until it is taken is the model's, log 5. -/
def Obligations.PulseEventsMoveWalkingWindows : Prop :=
  ∀ (s : State) (p : PulsePair), s.rstLow = false →
    let reached := fun (w : Window) (k : Walk) =>
      w.walk = some k ∧ k.pair = p ∧ (w.state = .opened ∨ w.state = .frozen)
    let steps := fun (w : Window) (k : Walk) =>
      w.stepCount < k.stepLimit ∧ w.base + 2 ^ k.stride + w.span * 2 ^ w.granule ≤ 2 ^ 36
    (0 < (s.pair p).restarts →
      ∃ t : State, exec (.restart p) s = .next t
        ∧ t = { s.putPair p { s.pair p with restarts := (s.pair p).restarts - 1 } with windows := t.windows }
        ∧ (∀ j, (∀ k, ¬ reached (s.window j) k) → t.window j = s.window j)
        ∧ ∀ j k, reached (s.window j) k →
            let placed := { s.window j with base := k.start, stepCount := 0, overrun := false }
            t.window j
              = if k.commitAtRestart = true ∧ (s.window j).shadowPending = true then
                  { placed with activeMap := (s.window j).shadowMap, shadowPending := false }
                else placed)
    ∧ (0 < (s.pair p).advances →
        ∃ t : State, exec (.advance p) s = .next t
          ∧ t = { s.putPair p { s.pair p with advances := (s.pair p).advances - 1 } with
                  windows := t.windows, attn := t.attn }
          ∧ (∀ j, (∀ k, ¬ reached (s.window j) k) → t.window j = s.window j)
          ∧ (∀ j k, reached (s.window j) k → steps (s.window j) k →
              t.window j
                = { s.window j with base := (s.window j).base + 2 ^ k.stride, stepCount := (s.window j).stepCount + 1 })
          ∧ (∀ j k, reached (s.window j) k → ¬ steps (s.window j) k →
              t.window j = { s.window j with overrun := true }
                ∧ t.attn = { s.attn with causes := s.attn.causes ||| 0x10#8 })
          ∧ ((∀ j k, reached (s.window j) k → steps (s.window j) k) → t.attn = s.attn))

/-! ### Gates (R144 to R147) -/

/-- GATE BIND checks its fields in order and loads the gate: bound, its phase set from the slot as it stands; unbound,
its level the one its pin drives. It answers with the record and the pin's level, which for a bound gate is high
exactly when ACTIVE under ACTIVE_HIGH and when INACTIVE under ACTIVE_LOW (R145, R146). GATES SET loads the unbound
level of each unbound gate, leaves each bound one, and answers with the eight pin levels (R147). The slot byte of an
unbound gate reads 0: the model's choice, log 8. -/
def Obligations.GateCommandsLoadGates : Prop :=
  (∀ (s : State) (gate bind slot polarity mode : Byte), s.commandDue (.gateBind gate bind slot polarity mode) = true →
    let refused := fun (why : Reason) =>
      exec (.gateBind gate bind slot polarity mode) s = .next (s.portGranted.answered 0x48 (some why) [])
    let pol : Polarity := if polarity = 0 then .activeHigh else .activeLow
    let md : GateMode := if mode = 0 then .level else .toggle
    (7 < gate.toNat ∨ 1 < bind.toNat ∨ 1 < polarity.toNat ∨ 1 < mode.toNat → refused .badField)
    ∧ (gate.toNat ≤ 7 → bind = 1 → polarity.toNat ≤ 1 → mode.toNat ≤ 1 → 63 < slot.toNat → refused .badSlot)
    ∧ (∀ g k, gateOf gate = some g → bind = 1 → polarity.toNat ≤ 1 → mode.toNat ≤ 1 → slotOf slot = some k →
        let active := mode == 0 && (s.window k).state == .opened
        exec (.gateBind gate bind slot polarity mode) s
          = .next
              ((s.portGranted.putGate g
                  { binding := some k, polarity := pol, mode := md, unboundHigh := (s.gate g).unboundHigh,
                    active := active }).answered 0x48 none
                [1, slot, polarity, mode, yesNo (s.gate g).unboundHigh,
                 yesNo (if polarity = 0 then active else !active)]))
    ∧ (∀ g, gateOf gate = some g → bind = 0 → polarity.toNat ≤ 1 → mode.toNat ≤ 1 →
        exec (.gateBind gate bind slot polarity mode) s
          = .next
              ((s.portGranted.putGate g
                  { binding := none, polarity := pol, mode := md, unboundHigh := (s.gate g).pinHigh,
                    active := false }).answered 0x48 none
                [0, 0, polarity, mode, yesNo (s.gate g).pinHigh, yesNo (s.gate g).pinHigh])))
  ∧ (∀ (s : State) (levels : Byte), s.commandDue (.gatesSet levels) = true →
    ∃ (t : State) (pins : Byte),
      exec (.gatesSet levels) s = .next (t.answered 0x49 none [pins])
      ∧ t = { s.portGranted with gates := t.gates }
      ∧ ∀ g : GateId,
          ((s.gate g).binding = none →
            t.gate g = { s.gate g with unboundHigh := levels.getLsbD g.val } ∧ pins.getLsbD g.val = levels.getLsbD g.val)
          ∧ ∀ k, (s.gate g).binding = some k →
              t.gate g = s.gate g
                ∧ pins.getLsbD g.val
                  = if (s.gate g).polarity = .activeHigh then (s.gate g).active else !(s.gate g).active)

/-! ### Attention causes and the load commands -/

/-- ATTENTION ENABLE replaces the enable set; ACK removes the named causes from the cause set and the named slots from the
expired set, and answers with the causes and the number of slots left (R150). READ EXPIRED returns the expired set and
REPORT READ the refusal report, and neither changes anything; REPORT CLEAR empties the report and clears "more", and
REFUSAL stays (R151, R153). -/
def Obligations.AttentionCommands : Prop :=
  ((∀ (s : State) (enables : Byte), s.commandDue (.attentionEnable enables) = true →
    exec (.attentionEnable enables) s
      = .next
          (({ s.portGranted with attn := { s.attn with enables := enables } } : State).answered 0x50 none
            [enables, s.attn.causes]))
  ∧ ∀ (s : State) (causes : Byte) (slots : BitVec 64), s.commandDue (.ack causes slots) = true →
      ∃ (left : Byte) (expired : BitVec 64),
        (∀ i, i < 8 → left.getLsbD i = (s.attn.causes.getLsbD i && !causes.getLsbD i))
        ∧ (∀ i, i < 64 → expired.getLsbD i = (s.attn.expired.getLsbD i && !slots.getLsbD i))
        ∧ exec (.ack causes slots) s
          = .next
              (({ s.portGranted with attn := { s.attn with causes := left, expired := expired } } : State).answered
                0x51 none
                [left, BitVec.ofNat 8 ((List.finRange 64).countP fun i => expired.getLsbD i.val)]))
  ∧ (∀ s : State,
    (s.commandDue .readExpired = true →
      exec .readExpired s = .next (s.portGranted.answered 0x52 none (bytesOf 8 s.attn.expired.toNat)))
    ∧ (s.commandDue .reportRead = true → s.attn.report = none →
        exec .reportRead s
          = .next (s.portGranted.answered 0x53 none ([0, yesNo s.attn.more] ++ List.replicate 16 0)))
    ∧ (∀ c : Captured, s.commandDue .reportRead = true → s.attn.report = some c →
        exec .reportRead s
          = .next
              (s.portGranted.answered 0x53 none
                ([1, yesNo s.attn.more, BitVec.ofNat 8 c.lane.val, BitVec.ofNat 8 c.agent.val, c.kind.setWidth 8,
                  c.tag.setWidth 8] ++ bytesOf 5 c.locator.toNat ++ bytesOf 2 c.length.toNat
                  ++ [BitVec.ofNat 8 c.reason.code] ++ bytesOf 4 c.stamp.toNat)))
    ∧ (s.commandDue .reportClear = true →
        exec .reportClear s
          = .next
              (({ s.portGranted with attn := { s.attn with report := none, more := false } } : State).answered 0x54
                none [])))

/-- RELOAD starts a load when every slot and every entry is FREE, and is NOT_EMPTY otherwise, with nothing else
changed (R163, R169); LOAD ABORT asks the load in progress to end, direct, and in READY is refused with STATE (R170).
The loader's other fields start at the model's values, log 12. -/
def Obligations.ReloadAndLoadAbort : Prop :=
  ∀ s : State,
    (s.commandDue .reload = true →
      ((∀ k, (s.window k).state = .free) → (∀ i, (s.entry i).state = .free) →
        exec .reload s
          = .next
              (({ s.portGranted with
                  service := .loading
                  loader :=
                    { Loader.reset with
                      result := { outcome := .pending, fault := none, attempts := 0 }, phase := .busCheck } } :
                  State).answered 0x58 none []))
      ∧ ((∃ k, (s.window k).state ≠ .free) ∨ (∃ i, (s.entry i).state ≠ .free) →
          exec .reload s = .next (s.portGranted.answered 0x58 (some .notEmpty) [])))
    ∧ (s.commandDue .loadAbort = true →
        (s.service = .loading →
          exec .loadAbort s
            = .next (({ s with loader := { s.loader with abortAsked := true } } : State).answered 0x59 none []))
        ∧ (s.service = .ready → exec .loadAbort s = .next (s.answered 0x59 (some .state) [])))

/-! ### Check lanes (R136 to R139, R117) -/

/-- An IDLE lane takes words 0 and 1; word 2 makes the three words its request and the lane WAITING; a withdrawal after one
or two words returns it to position 0; a word offered while the lane is not IDLE is not taken; and Ln_RQT is high exactly
while a word is offered to an IDLE lane (R136), with RST_N high: that it is low while RST_N is low is the model's, log 29. A
request of an undefined kind is answered by the lane itself, NOT_READY in
LOADING and BAD_KIND in READY, and captured in the refusal report in READY (R137, R152). -/
def Obligations.LaneTakesRequestsAndRefusesUndefinedKinds : Prop :=
  (∀ (s : State) (l : LaneId) (word : Word32), s.rstLow = false → (s.lane l).state = .idle →
    ((s.lane l).words.length < 2 →
      exec (.requestWord l word) s
        = .next (s.putLane l { s.lane l with words := (s.lane l).words ++ [word] }))
    ∧ (∀ w0 w1, (s.lane l).words = [w0, w1] →
        exec (.requestTake l word) s
          = .next
              (s.putLane l
                { s.lane l with state := .waiting, words := [], request := some (decodeRequest w0 w1 word) }))
    ∧ ((s.lane l).words ≠ [] → exec (.requestWithdraw l) s = .next (s.putLane l { s.lane l with words := [] })))
  ∧ (∀ (s : State) (l : LaneId) (word : Word32), (s.lane l).state ≠ .idle →
    exec (.requestWord l word) s = .next s ∧ exec (.requestTake l word) s = .next s)
  ∧ (∀ (s : State) (l : LaneId) (offered : Bool),
    s.requestTakenHigh l offered = true ↔ s.rstLow = false ∧ offered = true ∧ (s.lane l).state = .idle)
  ∧ (∀ (s : State) (l : LaneId) (r : Request), s.requestDue l r = true → r.kind.toNat = 0 ∨ 7 ≤ r.kind.toNat →
    exec (.badKind l r) s
      = .next (s.laneRefused l r (if s.service = .loading then .notReady else .badKind) none))

/-- With its channel FREE a lane offers the answer in its holder; without one it delivers the notice of the lowest-numbered
entry pending for it, which an ENDED entry does not outlive; a message taken frees the channel, and after an answer the
lane is IDLE (R117, R138, R139). -/
def Obligations.LaneOffersAnswersThenNotices : Prop :=
  ∀ (s : State) (l : LaneId), s.rstLow = false →
    ((s.lane l).channel = .free → (s.lane l).answer ≠ none →
      exec (.answerOffer l) s = .next (s.putLane l { s.lane l with channel := .answer }))
    ∧ (∀ (i : EntryId) (o : EOutcome), (s.lane l).channel = .free → (s.lane l).answer = none →
        (s.entry i).noticePending = true → (s.agent (s.entry i).agent).lane = l → (s.entry i).outcome = some o →
        (∀ j, j < i → (s.entry j).noticePending = true → (s.agent (s.entry j).agent).lane ≠ l) →
        exec (.noticeDelivery l) s
          = .next
              ((s.putLane l
                  { s.lane l with
                    channel :=
                      .notice { entry := i, slot := (s.entry i).slot, kind := (s.entry i).kind, outcome := o } }).putEntry
                i (if (s.entry i).state = .ended then Entry.free else { s.entry i with noticePending := false })))
    ∧ ((s.lane l).channel = .answer →
        exec (.messageTaken l) s
          = .next (s.putLane l { s.lane l with channel := .free, answer := none, state := .idle }))
    ∧ ∀ n, (s.lane l).channel = .notice n →
        exec (.messageTaken l) s = .next (s.putLane l { s.lane l with channel := .free })

/-! ### Lookups (R43 to R56) -/

/-- The ten checks of a lookup in their order, each refusal with the slot in its answer from the sixth on; a refusal changes
no window, no entry and no agent (R43 to R51, R56). -/
def Obligations.LookupChecksInOrder : Prop :=
  ∀ (s : State) (l : LaneId) (r : Request) (write : Bool), s.requestDue l r = true →
    r.kind = (if write then 2 else 1) →
    let c : Instr := if write then .lookupWrite l r else .lookupRead l r
    let refused := fun (why : Reason) (slot : Option Byte) => exec c s = .next (s.laneRefused l r why slot)
    let a := r.address.toNat
    let covers := fun k : SlotId =>
      ((s.window k).state = .opened ∨ (s.window k).state = .frozen ∨ (s.window k).state = .draining)
        ∧ (s.window k).base ≤ a ∧ a < (s.window k).base + (s.window k).span * 2 ^ (s.window k).granule
    let known := s.service = .ready ∧ (s.agent r.agent).enabled = true ∧ (s.agent r.agent).lane = l
    let fits := 1 ≤ r.length.toNat ∧ r.length.toNat ≤ 4096 ∧ a + r.length.toNat ≤ 2 ^ 36
    (s.service = .loading → refused .notReady none)
    ∧ (s.service = .ready → (s.agent r.agent).enabled = false → refused .agentOff none)
    ∧ (s.service = .ready → (s.agent r.agent).enabled = true → (s.agent r.agent).lane ≠ l →
        refused .wrongLane none)
    ∧ (known → ¬ fits → refused .length none)
    ∧ (known → fits → (∀ k, ¬ covers k) → refused .noWindow none)
    ∧ ∀ (k : SlotId) (w : Window), known → fits → covers k → (∀ j, j < k → ¬ covers j) → w = s.window k →
        let slot := some (BitVec.ofNat 8 k.val)
        let inside := a + r.length.toNat ≤ w.base + w.span * 2 ^ w.granule
        let mapped := ∀ i, (a - w.base) / 2 ^ w.granule ≤ i → i ≤ (a + r.length.toNat - 1 - w.base) / 2 ^ w.granule →
          w.activeMap.getLsbD i = true
        let right := w.rights[(s.agent r.agent).cls]
        let allowed := right = .readWrite ∨ (write = false ∧ right = .read)
        let held := ∃ i : EntryId, (s.entry i).state = .held ∧ (s.entry i).agent = r.agent ∧ (s.entry i).slot = k
          ∧ ((s.entry i).kind = .write ∨ write = false)
        (w.state = .frozen → refused .frozen slot)
        ∧ (w.state = .draining → refused .retiring slot)
        ∧ (w.state = .opened → ¬ inside → refused .split slot)
        ∧ (w.state = .opened → inside → ¬ mapped → refused .unmapped slot)
        ∧ (w.state = .opened → inside → mapped → ¬ allowed → refused .noRight slot)
        ∧ (w.state = .opened → inside → mapped → allowed → w.access = .claimed → ¬ held → refused .notHeld slot)

/-- A lookup that passes every check is granted on the lowest covering slot: its idle count is reloaded, a USES lease that
governs it counts one use, and at the last use the lease expires within the lookup; the answer carries the slot and, for a
write, the lane mask as it stands (R46, R52 to R55). -/
def Obligations.LookupIsGranted : Prop :=
  ∀ (s : State) (l : LaneId) (r : Request) (write : Bool) (k : SlotId) (w : Window), s.requestDue l r = true →
    r.kind = (if write then 2 else 1) → w = s.window k → s.LookupPasses l r write k →
    let c : Instr := if write then .lookupWrite l r else .lookupRead l r
    let answer : Answer :=
      { kind := r.kind, tag := r.tag, outcome := .granted, reason := none, slot := some (BitVec.ofNat 8 k.val),
        entry := none, laneMask := if write then some w.laneMask else none }
    let used := (s.laneGranted l).putWindow k { w with idleCount := w.idleLimit.getD w.idleCount }
    let owner := used.window (s.owner k)
    let counted := used.putWindow (s.owner k) { owner with leaseCount := owner.leaseCount - 1 }
    (owner.leaseMode ≠ .uses → exec c s = .next (used.laneAnswered l answer))
    ∧ (owner.leaseMode = .uses → 2 ≤ owner.leaseCount → exec c s = .next (counted.laneAnswered l answer))
    ∧ (owner.leaseMode = .uses → owner.leaseCount ≤ 1 →
        exec c s = .next ((counted.expireLease (s.owner k)).laneAnswered l answer))

/-! ### Claims (R95 to R116) -/

/-- The checks of a claim request in their order, each refusal with the slot in its answer from FROZEN on; a refusal changes
no window, no entry and no agent (R98, R99, R102). -/
def Obligations.ClaimChecksInOrder : Prop :=
  ∀ (s : State) (l : LaneId) (r : Request) (write : Bool), s.requestDue l r = true →
    r.kind = (if write then 4 else 3) →
    let c : Instr := if write then .claimWrite l r else .claimRead l r
    let refused := fun (why : Reason) (slot : Option Byte) => exec c s = .next (s.laneRefused l r why slot)
    let known := s.service = .ready ∧ (s.agent r.agent).enabled = true ∧ (s.agent r.agent).lane = l
    (s.service = .loading → refused .notReady none)
    ∧ (s.service = .ready → (s.agent r.agent).enabled = false → refused .agentOff none)
    ∧ (s.service = .ready → (s.agent r.agent).enabled = true → (s.agent r.agent).lane ≠ l →
        refused .wrongLane none)
    ∧ (known → 63 < r.slot.toNat → refused .noWindow none)
    ∧ ∀ k : SlotId, known → slotOf r.slot = some k →
        let w := s.window k
        let right := w.rights[(s.agent r.agent).cls]
        let allowed := right = .readWrite ∨ (write = false ∧ right = .read)
        let mine := ∃ i : EntryId, ((s.entry i).state = .waiting ∨ (s.entry i).state = .held)
          ∧ (s.entry i).agent = r.agent ∧ (s.entry i).slot = k
        (w.state = .free ∨ w.state = .staged ∨ w.state = .armed → refused .noWindow none)
        ∧ (w.state = .frozen → refused .frozen (some r.slot))
        ∧ (w.state = .draining → refused .retiring (some r.slot))
        ∧ (w.state = .opened → ¬ allowed → refused .noRight (some r.slot))
        ∧ (w.state = .opened → allowed → mine → refused .duplicate (some r.slot))
        ∧ (w.state = .opened → allowed → ¬ mine → (s.agent r.agent).quota ≤ (s.agent r.agent).inUse →
            refused .quota (some r.slot))

/-- A claim request that passes its checks: with an empty queue and room for its kind it is granted at once in the
lowest-numbered FREE entry; otherwise a wait limit of 0 answers BUSY with nothing changed, and any other queues it at the
tail; with no FREE entry it is TABLE_FULL (R100, R101). -/
def Obligations.ClaimIsDecided : Prop :=
  ∀ (s : State) (l : LaneId) (r : Request) (write : Bool) (k : SlotId), s.requestDue l r = true →
    r.kind = (if write then 4 else 3) → slotOf r.slot = some k → (s.window k).state = .opened →
    s.service = .ready → (s.agent r.agent).enabled = true → (s.agent r.agent).lane = l →
    (s.window k).rights[(s.agent r.agent).cls] = .readWrite
      ∨ (write = false ∧ (s.window k).rights[(s.agent r.agent).cls] = .read) →
    (∀ i : EntryId, (s.entry i).agent = r.agent → (s.entry i).slot = k →
      (s.entry i).state = .free ∨ (s.entry i).state = .ended) →
    (s.agent r.agent).inUse < (s.agent r.agent).quota →
    let c : Instr := if write then .claimWrite l r else .claimRead l r
    let held := (List.finRange 48).countP fun i => (s.entry i).state == .held && (s.entry i).slot == k
    let waiting := (List.finRange 48).countP fun i => (s.entry i).state == .waiting && (s.entry i).slot == k
    let room := waiting = 0
      ∧ if write then held = 0
        else held < (s.window k).claimLimit
          ∧ ∀ i : EntryId, (s.entry i).state = .held → (s.entry i).slot = k → (s.entry i).kind = .read
    let first := fun i : EntryId => (s.entry i).state = .free ∧ ∀ j, j < i → (s.entry j).state ≠ .free
    let taken : Entry :=
      { state := .held, agent := r.agent, slot := k, kind := if write then .write else .read,
        stamp := s.timebase.stamp,
        countdown := if (s.window k).holdLimit = 0 then none else some (s.window k).holdLimit, arrival := 0,
        outcome := none, noticePending := false }
    let waits : Entry :=
      { taken with state := .waiting, countdown := some r.waitLimit.toNat, arrival := waiting + 1 }
    let counted : AgentRecord := { s.agent r.agent with inUse := (s.agent r.agent).inUse + 1 }
    let answer := fun (o : AnswerOutcome) (entry : Option EntryId) =>
      ({ kind := r.kind, tag := r.tag, outcome := o, reason := none, slot := some r.slot, entry := entry,
         laneMask := none } : Answer)
    (∀ i, room → first i →
      exec c s
        = .next ((((s.laneGranted l).putEntry i taken).putAgent r.agent counted).laneAnswered l
            (answer .granted (some i))))
    ∧ (∀ i, ¬ room → r.waitLimit ≠ 0 → first i →
        exec c s
          = .next ((((s.laneGranted l).putEntry i waits).putAgent r.agent counted).laneAnswered l
              (answer .queued (some i))))
    ∧ (¬ room → r.waitLimit = 0 → exec c s = .next ((s.laneGranted l).laneAnswered l (answer .busy none)))
    ∧ (room ∨ r.waitLimit ≠ 0 → (∀ i, (s.entry i).state ≠ .free) →
        exec c s = .next (s.laneRefused l r .tableFull (some r.slot)))

/-- RELEASE: the lane checks; NOT_HELD without a WAITING or HELD entry; a HELD entry is freed with no notice, its window
takes the time held as its last hold, and the pass or the freeing of a DRAINING window follows; a WAITING entry leaves its
queue, and a pass follows when it was the head (R104, R109 to R112). The other fields of a freed slot are the model's,
log 13. -/
def Obligations.ReleaseFreesOrWithdraws : Prop :=
  ∀ (s : State) (l : LaneId) (r : Request), s.requestDue l r = true → r.kind = 5 →
    let refused := fun (why : Reason) (slot : Option Byte) => exec (.release l r) s = .next (s.laneRefused l r why slot)
    let mine := fun i : EntryId => (s.entry i).agent = r.agent ∧ (s.entry i).slot.val = r.slot.toNat
      ∧ ((s.entry i).state = .waiting ∨ (s.entry i).state = .held)
    let known := s.service = .ready ∧ (s.agent r.agent).enabled = true ∧ (s.agent r.agent).lane = l
    let answer := fun (o : AnswerOutcome) (i : EntryId) =>
      ({ kind := r.kind, tag := r.tag, outcome := o, reason := none, slot := some r.slot, entry := some i,
         laneMask := none } : Answer)
    (s.service = .loading → refused .notReady none)
    ∧ (s.service = .ready → (s.agent r.agent).enabled = false → refused .agentOff none)
    ∧ (s.service = .ready → (s.agent r.agent).enabled = true → (s.agent r.agent).lane ≠ l →
        refused .wrongLane none)
    ∧ (known → (∀ i, ¬ mine i) → refused .notHeld (some r.slot))
    ∧ (∀ (i : EntryId) (k : SlotId), known → mine i → (∀ j, mine j → j = i) → k = (s.entry i).slot →
        let counted : AgentRecord := { s.agent r.agent with inUse := (s.agent r.agent).inUse - 1 }
        ((s.entry i).state = .held →
          let freed :=
            (((s.laneGranted l).putWindow k
                { s.window k with lastHold := some (s.timebase.stamp - (s.entry i).stamp) }).putEntry i
              Entry.free).putAgent r.agent counted
          let others := ∃ j, j ≠ i ∧ (s.entry j).state = .held ∧ (s.entry j).slot ∈ s.unitSlots (s.owner k)
          ((s.window k).state = .opened →
            exec (.release l r) s = .next ((freed.grantPass k).laneAnswered l (answer .released i)))
          ∧ ((s.window k).state = .frozen ∨ ((s.window k).state = .draining ∧ others) →
              exec (.release l r) s = .next (freed.laneAnswered l (answer .released i)))
          ∧ ((s.window k).state = .draining → ¬ others →
              exec (.release l r) s
                = .next
                    ((freed.modifyWindows (s.unitSlots (s.owner k)) fun _ => Window.free).laneAnswered l
                      (answer .released i))))
        ∧ ((s.entry i).state = .waiting →
            ∃ t : State,
              t = { s.laneGranted l with entries := t.entries, agents := t.agents }
              ∧ t.entry i = Entry.free ∧ t.agent r.agent = counted ∧ (∀ a, a ≠ r.agent → t.agent a = s.agent a)
              ∧ (∀ j, j ≠ i →
                  t.entry j
                    = if (s.entry j).state = .waiting ∧ (s.entry j).slot = k
                          ∧ (s.entry i).arrival < (s.entry j).arrival then
                        { s.entry j with arrival := (s.entry j).arrival - 1 }
                      else s.entry j)
              ∧ ((s.entry i).arrival ≠ 1 →
                  exec (.release l r) s = .next (t.laneAnswered l (answer .withdrawn i)))
              ∧ ((s.entry i).arrival = 1 →
                  exec (.release l r) s = .next ((t.grantPass k).laneAnswered l (answer .withdrawn i)))))

/-- RENEW on a lane makes its checks in their order, and RENEW on the management port those of WindowCommandsRefused; then
either loads the lease count with its count, or with the reload when the count is 0, and a FROZEN window stays FROZEN (R75
to R77). -/
def Obligations.RenewLoadsTheLeaseCount : Prop :=
  (∀ (s : State) (l : LaneId) (r : Request), s.requestDue l r = true → r.kind = 6 →
    let refused := fun (why : Reason) (slot : Option Byte) =>
      exec (.renewRequest l r) s = .next (s.laneRefused l r why slot)
    let known := s.service = .ready ∧ (s.agent r.agent).enabled = true ∧ (s.agent r.agent).lane = l
    (s.service = .loading → refused .notReady none)
    ∧ (s.service = .ready → (s.agent r.agent).enabled = false → refused .agentOff none)
    ∧ (s.service = .ready → (s.agent r.agent).enabled = true → (s.agent r.agent).lane ≠ l →
        refused .wrongLane none)
    ∧ (known → 63 < r.slot.toNat → refused .noWindow none)
    ∧ ∀ k : SlotId, known → slotOf r.slot = some k →
        let w := s.window k
        let holds := ∃ i : EntryId, (s.entry i).state = .held ∧ (s.entry i).agent = r.agent ∧ (s.entry i).slot = k
          ∧ (s.entry i).kind = .write
        let inService := w.state = .opened ∨ w.state = .frozen
        (w.state = .free ∨ w.state = .staged ∨ w.state = .armed → refused .noWindow none)
        ∧ (w.state = .draining → refused .retiring (some r.slot))
        ∧ (inService → w.role = .member → refused .group (some r.slot))
        ∧ (inService → w.role ≠ .member → w.leaseMode = .none → refused .noLease (some r.slot))
        ∧ (inService → w.role ≠ .member → w.leaseMode ≠ .none → w.agentRenew = false ∨ ¬ holds →
            refused .noRight (some r.slot))
        ∧ (inService → w.role ≠ .member → w.leaseMode ≠ .none → w.agentRenew = true → holds →
            exec (.renewRequest l r) s
              = .next
                  (((s.laneGranted l).putWindow k
                      { w with
                        leaseCount :=
                          if r.address.toNat % 2 ^ 16 = 0 then w.leaseReload else r.address.toNat % 2 ^ 16 }).laneAnswered
                    l
                    { kind := r.kind, tag := r.tag, outcome := .renewed, reason := none, slot := some r.slot,
                      entry := none, laneMask := none })))
  ∧ (∀ (s : State) (slot : Byte) (count : BitVec 16) (k : SlotId), s.commandDue (.renew slot count) = true →
    slotOf slot = some k → (s.window k).role ≠ .member →
    (s.window k).state = .opened ∨ (s.window k).state = .frozen → (s.window k).leaseMode ≠ .none →
    let loaded := if count = 0 then (s.window k).leaseReload else count.toNat
    exec (.renew slot count) s
      = .next
          ((s.portGranted.putWindow k { s.window k with leaseCount := loaded }).answered 0x27 none
            ([slot, (s.window k).state.code] ++ bytesOf 2 loaded)))

/-- A grant pass grants from the head of an OPEN window's queue while it can: a WRITE when nothing is HELD, a READ when no
WRITE is HELD and the HELD entries are fewer than the claim limit, and it stops at the first head it cannot grant. The
entry granted is HELD from now, its notice pending, and those behind it move up by one (R97, R103, R105). -/
def Obligations.GrantPassGrantsFromTheHead : Prop :=
  ∀ (s : State) (k : SlotId),
    ((s.window k).state ≠ .opened → s.grantPass k = s)
    ∧ (s.queueHead k = none → s.grantPass k = s)
    ∧ ∀ i : EntryId, (s.window k).state = .opened → s.queueHead k = some i →
        let held := (List.finRange 48).countP fun j => (s.entry j).state == .held && (s.entry j).slot == k
        let can := match (s.entry i).kind with
          | .write => held = 0
          | .read => held < (s.window k).claimLimit
            ∧ ∀ j : EntryId, (s.entry j).state = .held → (s.entry j).slot = k → (s.entry j).kind = .read
        ((s.entry i).state = .waiting ∧ (s.entry i).slot = k ∧ (s.entry i).arrival = 1)
        ∧ (¬ can → s.grantPass k = s)
        ∧ (can →
            ∃ t : State, s.grantPass k = t.grantPass k
              ∧ t = { s with entries := t.entries }
              ∧ t.entry i
                = { s.entry i with
                    state := .held
                    stamp := s.timebase.stamp
                    countdown := if (s.window k).holdLimit = 0 then none else some (s.window k).holdLimit
                    arrival := 0
                    outcome := some .granted
                    noticePending := true }
              ∧ ∀ j, j ≠ i →
                  t.entry j
                    = if (s.entry j).state = .waiting ∧ (s.entry j).slot = k ∧ 1 < (s.entry j).arrival then
                        { s.entry j with arrival := (s.entry j).arrival - 1 }
                      else s.entry j)

/-! ### Ticks (R64 to R73, R85, R113 to R115, R124) -/

/-- The Window Table's tick. A SOLO or HEAD window that is FREE, STAGED or FROZEN is kept; an ARMED window opens uncounted,
with its whole group; an OPEN group with no count at its end is counted down once; and a SOLO window is counted once, in
the order decrement, lease expiry, idle expiry, or drain count, with the entries naming it, its gates and the expired set
following; WindowTickHandlesGroups says the rest of a group (R64 to R67, R69 to R73, R85, R89, R124). That the ticks handed
over are counted is the model's, log 5; a freed slot's other fields and the absent countdown of an entry ended so are the
model's, logs 13 and 7. -/
def Obligations.WindowTickHandlesEachWindow : Prop :=
  ∀ s : State, s.rstLow = false → 0 < s.timebase.windowTicks →
    ∃ t : State, exec .windowTick s = .next t
      ∧ t = { s with
              windows := t.windows, gates := t.gates, entries := t.entries, agents := t.agents,
              attn := { s.attn with causes := t.attn.causes, expired := t.attn.expired },
              timebase := { s.timebase with windowTicks := s.timebase.windowTicks - 1 } }
      ∧ (∀ c, c ≠ 0 → c ≠ 1 → c ≠ 3 → t.attn.causes.getLsbD c = s.attn.causes.getLsbD c)
      ∧ (∀ k, (s.window k).isMember = false →
          (s.window k).state = .free ∨ (s.window k).state = .staged ∨ (s.window k).state = .frozen →
          t.window k = s.window k)
      ∧ (GroupsAgree s → ∀ k, (s.window k).state = .armed →
          t.window k
            = { s.window k with
                state := .opened
                leaseCount :=
                  if (s.window k).leaseMode = .timed then (s.window k).leaseReload else (s.window k).leaseCount
                idleCount := (s.window k).idleLimit.getD 0 })
      ∧ (GroupsAgree s → ∀ h, (s.window h).isHead = true → (s.window h).state = .opened →
          ((s.window h).leaseMode = .timed → 2 ≤ (s.window h).leaseCount) →
          (∀ j ∈ s.unitSlots h, (s.window j).idleLimit ≠ none → 2 ≤ (s.window j).idleCount) →
          ∀ j ∈ s.unitSlots h,
            ((s.window j).state = .opened →
              t.window j
                = { s.window j with
                    leaseCount :=
                      if (s.window j).leaseMode = .timed then (s.window j).leaseCount - 1 else (s.window j).leaseCount
                    idleCount :=
                      if (s.window j).idleLimit = none then (s.window j).idleCount else (s.window j).idleCount - 1 })
            ∧ ((s.window j).state = .frozen → t.window j = s.window j))
      ∧ ∀ (k : SlotId) (w : Window), w = s.window k → w.role = .solo →
          let timed := w.leaseMode = .timed ∧ w.leaseCount ≤ 1
          let idle := w.idleLimit ≠ none ∧ w.idleCount ≤ 1
          let held := ∃ i : EntryId, (s.entry i).state = .held ∧ (s.entry i).slot = k
          let counted : Window :=
            { w with
              leaseCount := if w.leaseMode = .timed then w.leaseCount - 1 else w.leaseCount
              idleCount := if w.idleLimit = none then w.idleCount else w.idleCount - 1 }
          let reloaded : Window := { counted with leaseCount := w.leaseReload }
          (w.state = .opened → ¬ timed → ¬ idle → t.window k = counted)
          ∧ (w.state = .opened → ¬ timed → idle →
              t.window k = { counted with state := .frozen } ∧ t.attn.causes.getLsbD 1 = true)
          ∧ (w.state = .opened → timed → t.attn.expired.getLsbD k.val = true ∧ t.attn.causes.getLsbD 0 = true)
          ∧ (w.state = .opened → timed → w.expiryAction = .reload →
              (¬ idle → t.window k = reloaded)
              ∧ (idle → t.window k = { reloaded with state := .frozen } ∧ t.attn.causes.getLsbD 1 = true))
          ∧ (w.state = .opened → timed → w.expiryAction = .freeze → t.window k = { counted with state := .frozen })
          ∧ (w.state = .opened → timed → w.expiryAction = .retire →
              (held → t.window k = { counted with state := .draining, drainCount := s.drainLimit })
              ∧ (¬ held → t.window k = Window.free)
              ∧ ∀ i, (s.entry i).slot = k →
                  t.entry i
                    = if (s.entry i).state = .waiting then (s.entry i).gone .windowGone else s.entry i)
          ∧ (w.state = .draining → 2 ≤ w.drainCount → t.window k = { w with drainCount := w.drainCount - 1 })
          ∧ (w.state = .draining → w.drainCount ≤ 1 →
              t.window k = Window.free ∧ t.attn.causes.getLsbD 3 = true
                ∧ ∀ i, (s.entry i).slot = k → (s.entry i).state = .held → t.entry i = (s.entry i).gone .windowGone)
          ∧ (¬ (w.state = .opened ∧ timed ∧ w.expiryAction = .retire) → ¬ (w.state = .draining ∧ w.drainCount ≤ 1) →
              ∀ i, (s.entry i).slot = k → t.entry i = s.entry i)
          ∧ ∀ g, (s.gate g).binding = some k →
              (w.state = .opened → timed → w.expiryAction = .reload → ¬ idle → (s.gate g).mode = .toggle →
                t.gate g = { s.gate g with active := !(s.gate g).active })
              ∧ (¬ (w.state = .opened ∧ timed ∧ w.expiryAction = .reload ∧ ¬ idle) →
                  t.gate g = (s.gate g).report k w.state (t.window k).state)

/-- The Window Table's tick on a group and on a window alone, for a part whose groups are whole: every slot, entry, agent
and cause afterwards. With `w` the window that owns the slot's lease (R3), an OPEN unit counts each OPEN slot down; then its
lease may expire, which reloads, freezes, drains or frees the whole unit; then an idle count at 0 in the owner freezes the
unit, and in a member that member alone; a DRAINING unit counts its drain and is forced FREE at 0; a FREE, STAGED or FROZEN
one is kept, and an ARMED one is said in WindowTickHandlesEachWindow (R64 to R67, R69 to R73, R85, R88, R89, R91, R124).
That the ticks handed over are counted is the model's, log 5; the fields of a freed slot and the absent countdown of an
entry ended so are the model's, logs 13 and 7. -/
def Obligations.WindowTickHandlesGroups : Prop :=
  ∀ s : State, s.rstLow = false → 0 < s.timebase.windowTicks → GroupsAgree s →
    let w := fun k : SlotId => s.window (s.owner k)
    let unit := fun k : SlotId => s.unitSlots (s.owner k)
    let timed := fun k => (w k).state = .opened ∧ (w k).leaseMode = .timed ∧ (w k).leaseCount ≤ 1
    let acts := fun k (a : ExpiryAction) => timed k ∧ (w k).expiryAction = a
    let held := fun k => ∃ i : EntryId, (s.entry i).state = .held ∧ (s.entry i).slot ∈ unit k
    let idle := fun k : SlotId =>
      (s.window k).state = .opened ∧ (s.window k).idleLimit ≠ none ∧ (s.window k).idleCount ≤ 1
    let idles := fun k => (w k).state = .opened ∧ ¬ acts k .retire ∧ ¬ acts k .freeze ∧ (idle (s.owner k) ∨ idle k)
    let forced := fun k => (w k).state = .draining ∧ (w k).drainCount ≤ 1
    let counted := fun k : SlotId =>
      if (s.window k).state = .opened then
        { s.window k with
          leaseCount :=
            if (s.window k).leaseMode = .timed then (s.window k).leaseCount - 1 else (s.window k).leaseCount
          idleCount := if (s.window k).idleLimit = none then (s.window k).idleCount else (s.window k).idleCount - 1 }
      else s.window k
    let frozen := fun x : Window => if x.state = .opened then { x with state := .frozen } else x
    let ends := fun i : EntryId =>
      let o := w (s.entry i).slot
      (o.state == .opened && o.leaseMode == .timed && decide (o.leaseCount ≤ 1) && o.expiryAction == .retire
          && (s.entry i).state == .waiting)
        || (o.state == .draining && decide (o.drainCount ≤ 1)
          && ((s.entry i).state == .waiting || (s.entry i).state == .held))
    ∃ t : State, exec .windowTick s = .next t
      ∧ (∀ k, (w k).state = .free ∨ (w k).state = .staged ∨ (w k).state = .frozen → t.window k = s.window k)
      ∧ (∀ k, (w k).state = .opened → ¬ timed k → ¬ idles k → t.window k = counted k)
      ∧ (∀ k, (w k).state = .opened → ¬ timed k → idles k → t.window k = frozen (counted k))
      ∧ (∀ k, acts k .reload →
          let reloaded :=
            if k = s.owner k then { counted k with leaseCount := (s.window k).leaseReload } else counted k
          (idles k → t.window k = frozen reloaded) ∧ (¬ idles k → t.window k = reloaded))
      ∧ (∀ k, acts k .freeze → t.window k = frozen (counted k))
      ∧ (∀ k, acts k .retire →
          (held k →
            t.window k
              = { counted k with
                  state := .draining
                  drainCount := if k = s.owner k then s.drainLimit else (s.window k).drainCount })
          ∧ (¬ held k → t.window k = Window.free))
      ∧ (∀ k, (w k).state = .draining →
          (forced k → t.window k = Window.free)
          ∧ (¬ forced k →
              t.window k
                = if k = s.owner k then { s.window k with drainCount := (s.window k).drainCount - 1 } else s.window k))
      ∧ (∀ i, t.entry i = if ends i then (s.entry i).gone .windowGone else s.entry i)
      ∧ (∀ a, t.agent a
          = { s.agent a with
              inUse := (s.agent a).inUse - (List.finRange 48).countP fun i => ends i && (s.entry i).agent == a })
      ∧ (t.attn.causes.getLsbD 0 = true ↔ s.attn.causes.getLsbD 0 = true ∨ ∃ k, timed k)
      ∧ (t.attn.causes.getLsbD 1 = true
          ↔ s.attn.causes.getLsbD 1 = true
            ∨ ∃ k, (w k).state = .opened ∧ ¬ acts k .retire ∧ ¬ acts k .freeze ∧ idle k)
      ∧ (t.attn.causes.getLsbD 3 = true ↔ s.attn.causes.getLsbD 3 = true ∨ ∃ k, forced k)
      ∧ (∀ k : SlotId,
          t.attn.expired.getLsbD k.val = true
            ↔ s.attn.expired.getLsbD k.val = true ∨ (timed k ∧ (s.window k).isMember = false))
      ∧ (∀ g, (s.gate g).binding = none → t.gate g = s.gate g)
      ∧ ∀ g k, (s.gate g).binding = some k →
          let flips := acts k .reload ∧ k = s.owner k ∧ ¬ idles k ∧ (s.gate g).mode = .toggle
          (flips → t.gate g = { s.gate g with active := !(s.gate g).active })
            ∧ (¬ flips → t.gate g = (s.gate g).report k (s.window k).state (t.window k).state)

/-- A lease expiry (R69 to R72, R88). LEASE_EXPIRY is the event that takes the lease count to 0: of a TIMED lease the tick
handed to the Window Table, of a USES lease the lookup that takes the last use; with neither, as when the Timebase is STOPPED
and no tick waits, no count moves and nothing changes (R60). In either, the owner's slot enters the expired set, EXPIRED is
raised, and the action is applied: RELOAD loads the count and flips the TOGGLE gates of the owner's slot, FREEZE freezes the
unit, RETIRE drains or frees it. That the row is the tick or the lookup itself is the model's, log 6; the fields of a freed
slot and the absent countdown of an entry ended so are logs 13 and 7. -/
def Obligations.LeaseExpiryActs : Prop :=
  (∀ (s : State) (k : SlotId), s.rstLow = false → (s.window k).state = .opened → (s.window k).role ≠ .member →
    (s.window k).leaseMode = .timed → (s.window k).leaseCount ≤ 1 →
    (0 < s.timebase.windowTicks →
      ∃ t : State, exec (.leaseExpiry k) s = .next t ∧ exec .windowTick s = .next t
        ∧ t.attn.expired.getLsbD k.val = true ∧ t.attn.causes.getLsbD 0 = true)
    ∧ (s.timebase.windowTicks = 0 → exec (.leaseExpiry k) s = .next s))
  ∧ (∀ (s : State) (l : LaneId) (r : Request) (write : Bool) (k : SlotId), s.requestDue l r = true →
      r.kind = (if write then 2 else 1) → s.LookupPasses l r write k →
      (s.window (s.owner k)).leaseMode = .uses → (s.window (s.owner k)).leaseCount ≤ 1 →
      exec (.leaseExpiry (s.owner k)) s = exec (if write then .lookupWrite l r else .lookupRead l r) s)
  ∧ ∀ (s : State) (k : SlotId) (w : Window), w = s.window k → w.state = .opened → w.role ≠ .member →
    let attn : Attention :=
      { s.attn with causes := s.attn.causes ||| 0x01#8, expired := s.attn.expired ||| (1#64 <<< k.val) }
    let out : State := { s with attn := attn }
    let held := ∃ i : EntryId, (s.entry i).state = .held ∧ (s.entry i).slot ∈ s.unitSlots k
    (w.expiryAction = .reload →
      ∃ t : State, s.expireLease k = t
        ∧ t = { s with windows := s.windows.set k { w with leaseCount := w.leaseReload }, attn := attn, gates := t.gates }
        ∧ ∀ g, t.gate g
            = if (s.gate g).binding = some k ∧ (s.gate g).mode = .toggle then
                { s.gate g with active := !(s.gate g).active }
              else s.gate g)
    ∧ (w.expiryAction = .freeze →
        s.expireLease k
          = out.modifyWindows (s.unitSlots k) fun w => if w.state = .opened then { w with state := .frozen } else w)
    ∧ (w.expiryAction = .retire → held → out.DrainedTo (s.expireLease k) k (s.unitSlots k))
    ∧ (w.expiryAction = .retire → ¬ held → out.FreedTo (s.expireLease k) (s.unitSlots k))

/-- An idle expiry and a drain expiry (R67, R73, R89, R91, R124). IDLE_EXPIRY and DRAIN_EXPIRY are the tick that takes the
count to 0: the idle expiry freezes a SOLO window, every OPEN slot of a HEAD's unit, or a MEMBER alone, and raises IDLE; the
drain expiry forces the unit FREE, its WAITING and HELD entries ended as WINDOW_GONE, and raises DRAIN_FORCED. Without a tick
handed over, as when the Timebase is STOPPED, no count moves and nothing changes (R60). That the row is the tick itself is
the model's, log 6; the fields of a freed slot and the absent countdown of an entry ended so are logs 13 and 7. -/
def Obligations.IdleAndDrainExpiriesAct : Prop :=
  (∀ (s : State) (k : SlotId), s.rstLow = false → s.timebase.windowTicks = 0 →
    exec (.idleExpiry k) s = .next s ∧ exec (.drainExpiry k) s = .next s)
  ∧ (∀ (s : State) (k h : SlotId), s.rstLow = false → 0 < s.timebase.windowTicks → GroupsAgree s → h = s.owner k →
      (s.window h).state = .opened → (s.window k).state = .opened → (s.window k).idleLimit ≠ none →
      (s.window k).idleCount ≤ 1 →
      ((s.window h).leaseMode = .timed → (s.window h).leaseCount ≤ 1 → (s.window h).expiryAction = .reload) →
      (k ≠ h → (s.window h).idleLimit ≠ none → 2 ≤ (s.window h).idleCount) →
      ∃ t : State, exec (.idleExpiry k) s = .next t ∧ exec .windowTick s = .next t
        ∧ t.attn.causes.getLsbD 1 = true ∧ (t.window k).state = .frozen
        ∧ (k = h → ∀ j ∈ s.unitSlots h, (t.window j).state = .frozen))
  ∧ (∀ (s : State) (k : SlotId), s.rstLow = false → 0 < s.timebase.windowTicks → GroupsAgree s →
      (s.window k).state = .draining → (s.window k).role ≠ .member → (s.window k).drainCount ≤ 1 →
      ∃ t : State, exec (.drainExpiry k) s = .next t ∧ exec .windowTick s = .next t
        ∧ t.attn.causes.getLsbD 3 = true ∧ (∀ j ∈ s.unitSlots k, t.window j = Window.free)
        ∧ ∀ i, (s.entry i).slot ∈ s.unitSlots k → (s.entry i).state = .waiting ∨ (s.entry i).state = .held →
            t.entry i = (s.entry i).gone .windowGone)
  ∧ ∀ (s : State) (k : SlotId) (w : Window), w = s.window k →
      let idled : State := { s with attn := { s.attn with causes := s.attn.causes ||| 0x02#8 } }
      (w.state = .opened → s.idleOutAlone k = idled.putWindow k { w with state := .frozen })
      ∧ s.idleOutUnit k
          = (idled.modifyWindows (s.unitSlots k) fun w =>
              if w.state = .opened then { w with state := .frozen } else w)
      ∧ ({ s with attn := { s.attn with causes := s.attn.causes ||| 0x08#8 } } : State).FreedTo (s.forceDrained k)
          (s.unitSlots k)

/-- The Claim Unit's tick, in the steps of R113. First (`m`) every countdown falls by one, a HELD entry at 0 is revoked and
REVOKED raised, a WAITING one ends by wait expiry, and the queues move up; then (`t`) each OPEN window that lost a HELD entry
or the head of its queue runs a grant pass, whose grants are not counted in this tick, and a DRAINING window or group without
its last holder becomes FREE (R104, R105, R109, R113 to R115). That the ticks handed over are counted is the model's, log 5;
the fields of a freed slot and the absent countdown of an entry ended so are the model's, logs 13 and 7. -/
def Obligations.ClaimTickCountsEveryEntry : Prop :=
  ∀ s : State, s.rstLow = false → 0 < s.timebase.claimTicks →
    let out := fun i : EntryId => ∃ c, (s.entry i).countdown = some c ∧ c ≤ 1
    let counted := fun i : EntryId => (s.entry i).countdown.map (· - 1)
    let lost := fun k : SlotId => ∃ i : EntryId, (s.entry i).slot = k ∧ out i
      ∧ ((s.entry i).state = .held ∨ ((s.entry i).state = .waiting ∧ (s.entry i).arrival = 1))
    let times := fun i : EntryId =>
      ((s.entry i).state == .waiting || (s.entry i).state == .held)
        && ((s.entry i).countdown == some 0 || (s.entry i).countdown == some 1)
    ∃ m t : State, exec .claimTick s = .next t
      ∧ m = { s with
              entries := m.entries, agents := m.agents, attn := m.attn,
              timebase := { s.timebase with claimTicks := s.timebase.claimTicks - 1 } }
      ∧ ((∃ i, (s.entry i).state = .held ∧ out i) → m.attn = { s.attn with causes := s.attn.causes ||| 0x04#8 })
      ∧ ((∀ i, (s.entry i).state = .held → ¬ out i) → m.attn = s.attn)
      ∧ (∀ i, (s.entry i).state = .free ∨ (s.entry i).state = .ended → m.entry i = s.entry i)
      ∧ (∀ i, (s.entry i).state = .held → out i → m.entry i = (s.entry i).gone .revoked)
      ∧ (∀ i, (s.entry i).state = .held → ¬ out i → m.entry i = { s.entry i with countdown := counted i })
      ∧ (∀ i, (s.entry i).state = .waiting → out i → m.entry i = (s.entry i).gone .waitExpired)
      ∧ (∀ i, (s.entry i).state = .waiting → ¬ out i →
          m.entry i = { s.entry i with countdown := counted i, arrival := (m.entry i).arrival }
            ∧ (m.entry i).arrival ≤ (s.entry i).arrival
            ∧ (QueuesOrdered s →
                (m.entry i).arrival
                  = (s.entry i).arrival - (List.finRange 48).countP fun j =>
                      (s.entry j).state == .waiting && times j && (s.entry j).slot == (s.entry i).slot
                        && decide ((s.entry j).arrival < (s.entry i).arrival)))
      ∧ (∀ a, m.agent a
          = { s.agent a with
              inUse := (s.agent a).inUse - (List.finRange 48).countP fun i => times i && (s.entry i).agent == a })
      ∧ t = { m with windows := t.windows, gates := t.gates, entries := t.entries }
      ∧ (∀ i, (m.entry i).state ≠ .waiting → t.entry i = m.entry i)
      ∧ (∀ i, (m.entry i).state = .waiting →
          t.entry i = { m.entry i with arrival := (t.entry i).arrival }
          ∨ ((s.window (s.entry i).slot).state = .opened
              ∧ t.entry i
                = { s.entry i with
                    state := .held
                    stamp := s.timebase.stamp
                    countdown :=
                      if (s.window (s.entry i).slot).holdLimit = 0 then none
                      else some (s.window (s.entry i).slot).holdLimit
                    arrival := 0
                    outcome := some .granted
                    noticePending := true }))
      ∧ (GroupsAgree s → ∀ i,
          let passed := (s.window (s.entry i).slot).state = .opened ∧ lost (s.entry i).slot
          (passed → t.entry i = (m.grantPass (s.entry i).slot).entry i) ∧ (¬ passed → t.entry i = m.entry i))
      ∧ (GroupsAgree s → ∀ k,
          let goes := (s.window k).state = .draining ∧ (∃ j ∈ s.unitSlots (s.owner k), lost j)
            ∧ ∀ i, (m.entry i).state = .held → (m.entry i).slot ∉ s.unitSlots (s.owner k)
          (goes → t.window k = Window.free) ∧ (¬ goes → t.window k = s.window k))
      ∧ s.GatesReported t

/-- A revocation and a wait expiry of one entry (R104, R109, R113 to R115). REVOCATION and WAIT_EXPIRY are the tick handed to
the Claim Unit that takes the countdown to 0: the entry becomes ENDED with its notice pending, and REVOKED is raised by the
revocation alone; ClaimTickCountsEveryEntry says the rest of that tick. Without a tick handed over, as when the Timebase is
STOPPED, no countdown moves and nothing changes (R60). An entry that ends leaves its agent's claims in use and its queue; then
an OPEN window runs a grant pass, and a DRAINING unit without a holder becomes FREE. That the row is the tick itself is the
model's, log 6; the fields of a freed slot and the absent countdown of an entry ended are logs 13 and 7. -/
def Obligations.RevocationAndWaitExpiryEndOneEntry : Prop :=
  (∀ (s : State) (i : EntryId), s.rstLow = false → s.timebase.claimTicks = 0 →
    exec (.revocation i) s = .next s ∧ exec (.waitExpiry i) s = .next s)
  ∧ (∀ (s : State) (i : EntryId) (c : Nat), s.rstLow = false → 0 < s.timebase.claimTicks →
      (s.entry i).countdown = some c → c ≤ 1 →
      ((s.entry i).state = .held →
        ∃ t : State, exec (.revocation i) s = .next t ∧ exec .claimTick s = .next t
          ∧ t.entry i = (s.entry i).gone .revoked ∧ t.attn = { s.attn with causes := s.attn.causes ||| 0x04#8 })
      ∧ ((s.entry i).state = .waiting →
          ∃ t : State, exec (.waitExpiry i) s = .next t ∧ exec .claimTick s = .next t
            ∧ t.entry i = (s.entry i).gone .waitExpired))
  ∧ (∀ (s : State) (i : EntryId) (o : EOutcome) (a : AgentId), a = (s.entry i).agent →
      let counted : AgentRecord := { s.agent a with inUse := (s.agent a).inUse - 1 }
      ((s.entry i).state = .held → s.endEntry i o = (s.putEntry i ((s.entry i).gone o)).putAgent a counted)
      ∧ ((s.entry i).state = .waiting →
          s.endEntry i o = { s with entries := (s.endEntry i o).entries, agents := (s.endEntry i o).agents }
            ∧ (s.endEntry i o).entry i = (s.entry i).gone o
            ∧ (s.endEntry i o).agent a = counted ∧ (∀ b, b ≠ a → (s.endEntry i o).agent b = s.agent b)
            ∧ ∀ j, j ≠ i →
                (s.endEntry i o).entry j
                  = if (s.entry j).state = .waiting ∧ (s.entry j).slot = (s.entry i).slot
                        ∧ (s.entry i).arrival < (s.entry j).arrival then
                      { s.entry j with arrival := (s.entry j).arrival - 1 }
                    else s.entry j))
  ∧ ∀ (s : State) (k : SlotId),
      let held := ∃ j : EntryId, (s.entry j).state = .held ∧ (s.entry j).slot ∈ s.unitSlots (s.owner k)
      ((s.window k).state = .opened → s.afterLoss k = s.grantPass k)
      ∧ ((s.window k).state = .draining → ¬ held →
          s.afterLoss k = s.modifyWindows (s.unitSlots (s.owner k)) fun _ => Window.free)
      ∧ ((s.window k).state ≠ .opened → (s.window k).state ≠ .draining ∨ held → s.afterLoss k = s)

/-! ### The image load (R163 to R170) -/

/-- The bus events of a load. A bus check that finds TWD high at once or after at most nine pulses begins an attempt: the
start and the device address with the write bit; otherwise it fails the load with BUS_BUSY. A NAK of an address byte ends
the attempt with a stop, the fourth the load with NO_DEVICE, and a NAK of an offset byte the load at once, with the stop to
come; before it the loader has sent the bytes and the repeated start up to the byte that drew the NAK. Until that stop comes TWC
is low after the byte's ninth clock and TWD is released; after the stop of an attempt both are released. A clock held too long
fails the load with BUS_HELD, both lines released without a stop, or ends a load that is to abort with ABORTED, both released
after a stop where a start has been made (R164, R165, R170). A byte goes over TWD most significant bit first, each bit while TWC is high, and in the ninth clock the receiver drives
TWD low to acknowledge it (R164). The split of an attempt into these commands, and the free value that says which of its two
bytes drew a NAK, are the model's, log 18: the statement holds whatever that value is. A clock held too long in the stop of a
load that is to fail, and a NAK after an abort was asked, are the model's, logs 27 and 28. -/
def Obligations.LoaderFollowsTheBus : Prop :=
  (∀ s : State, s.rstLow = false →
    let into := fun (l : Loader) => (.next { s with loader := l } : Result)
    let fault := fun (why : Reason) => LoadPhase.failing { reason := why, index := none, why := none }
    let address : Byte := BitVec.ofNat 8 (2 * (0x58 + s.imga.toNat))
    let later := Config.nakAtLaterByte s.naks
    let nak := fun (l : Loader) => (.next { s with loader := l, naks := s.naks + 1 } : Result)
    let toAddress : List BusEvent :=
      if later then [.send 0, .send 0, .repeatedStart, .send (BitVec.ofNat 8 (2 * (0x58 + s.imga.toNat) + 1))] else []
    let toOffset : List BusEvent := if later then [.send 0, .send 0] else [.send 0]
    (∀ n, s.loader.phase = .busCheck → s.loader.abortAsked = false →
      (n ≤ 9 →
        exec (.busCheck n) s
          = into
              { s.loader with
                phase := .addressing, started := true,
                bus := (if n = 0 then [] else [.pulses n]) ++ [.start, .send address],
                result := { s.loader.result with attempts := s.loader.result.attempts + 1 } })
      ∧ (9 < n →
          exec (.busCheck n) s
            = into { s.loader with phase := fault .busBusy, started := false, bus := [.pulses 9, .release] }))
    ∧ (s.loader.phase = .addressing →
        (s.loader.result.attempts < 4 →
          exec .addressNak s
            = nak { s.loader with phase := .busCheck, started := false, bus := toAddress ++ [.stop] })
        ∧ (4 ≤ s.loader.result.attempts →
            exec .addressNak s = nak { s.loader with phase := fault .noDevice, bus := toAddress })
        ∧ exec .offsetNak s = nak { s.loader with phase := fault .noDevice, bus := toOffset }
        ∧ (s.loader.started = true →
            (∀ t, exec .addressNak s = .next t →
              t.twoWire = (decide (s.loader.result.attempts < 4), true))
            ∧ ∀ t, exec .offsetNak s = .next t → t.twoWire = (false, true)))
    ∧ (s.loader.phase = .busCheck ∨ s.loader.phase = .addressing ∨ s.loader.phase = .settings
          ∨ (∃ i, s.loader.phase = .record i) ∨ s.loader.phase = .ending →
        (s.loader.abortAsked = false →
          exec .busHeld s = into { s.loader with phase := fault .busHeld, started := false, bus := [.release] })
        ∧ (s.loader.abortAsked = true →
            exec .busHeld s
              = into
                  { s.loader with
                    phase := fault .aborted, started := false,
                    bus := (if s.loader.started then [.stop] else []) ++ [.release] }))
    ∧ (∀ f, s.loader.phase = .failing f → s.loader.started = true →
        exec .busHeld s = into { s.loader with phase := .failing f, started := false, bus := [.release] }))
  ∧ (let whileHigh := fun (e : BusEvent) => (e.lines.filter Prod.fst).map Prod.snd
     (∀ b : Byte, whileHigh (.send b) = ((List.range 8).map fun i => b.getLsbD (7 - i)) ++ [true])
      ∧ (∀ nak, whileHigh (.receive 1 nak) = List.replicate 8 true ++ [nak])
      ∧ (∀ n nak, whileHigh (.receive (n + 1) nak) = whileHigh (.receive n false) ++ whileHigh (.receive 1 nak))
      ∧ whileHigh .finishByte = [true]
      ∧ BusEvent.start.lines = [(true, true), (true, false), (false, false)]
      ∧ BusEvent.repeatedStart.lines = [(false, true), (true, true), (true, false), (false, false)]
      ∧ BusEvent.stop.lines = [(false, false), (true, false), (true, true)]
      ∧ BusEvent.release.lines = [(true, true)])

/-- The header and the settings record: the header's checks in order, its counts and sum field kept; the settings
record held for the end of the load, or BAD_RECORD with index 0 and BAD_FIELD; its bytes are summed (R166, R167). Before the
header the loader sends the two offset bytes, the repeated start and the device address with the read bit; it acknowledges
each byte but the last one it reads (R164, R166). An abort asked for ends the load at the end of the part (R170): that the
part's last byte is then the byte in progress is the model's, log 19. -/
def Obligations.HeaderAndSettingsRecordAreChecked : Prop :=
  ∀ (s : State) (bytes : List Byte), s.rstLow = false → bytes.length = 16 →
    let into := fun (l : Loader) => (.next { s with loader := l } : Result)
    let before : List BusEvent :=
      [.send 0, .send 0, .repeatedStart, .send (BitVec.ofNat 8 (2 * (0x58 + s.imga.toNat) + 1))]
    let aborted : LoadFault := { reason := .aborted, index := none, why := none }
    let a := (bytes.getD 3 0).toNat
    let w := (bytes.getD 4 0).toNat
    let marked := bytes.getD 0 0 = 0x44 ∧ bytes.getD 1 0 = 0x46 ∧ bytes.getD 2 0 = 1 ∧ a ≤ 32 ∧ w ≤ 64
      ∧ bytes.getD 9 0 = 0
    let long := (bytes.getD 5 0).toNat * 256 + (bytes.getD 6 0).toNat = 32 + 8 * a + 64 * w
    let sum := BitVec.ofNat 16 ((bytes.getD 7 0).toNat * 256 + (bytes.getD 8 0).toNat)
    let divider := (bytes.getD 0 0).toNat * 65536 + (bytes.getD 1 0).toNat * 256 + (bytes.getD 2 0).toNat
    let good := 1 ≤ divider ∧ divider ≤ 65536 ∧ (bytes.getD 3 0).toNat ≤ 1 ∧ 1 ≤ w
    let counted : Loader :=
      { s.loader with agentCount := a, windowCount := w, sumField := sum, runningSum := 0 }
    let kept : Loader :=
      { s.loader with
        settings :=
          some { divider := divider, runAtEnd := bytes.getD 3 0 == 1, drainLimit := w, enables := bytes.getD 5 0 }
        runningSum := s.loader.runningSum + BitVec.ofNat 16 (bytes.map BitVec.toNat).sum }
    (s.loader.phase = .addressing →
      let failed := fun (l : Loader) (f : LoadFault) =>
        ({ l with phase := .failing f, bus := before ++ [.receive 16 true] } : Loader)
      (¬ marked →
        exec (.imageHeader bytes) s
          = into (failed s.loader { reason := .badHeader, index := none, why := none }))
      ∧ (marked → ¬ long →
          exec (.imageHeader bytes) s
            = into (failed s.loader { reason := .badLength, index := none, why := none }))
      ∧ (marked → long → s.loader.abortAsked = false →
          exec (.imageHeader bytes) s
            = into { counted with phase := .settings, bus := before ++ [.receive 16 false] })
      ∧ (marked → long → s.loader.abortAsked = true → exec (.imageHeader bytes) s = into (failed counted aborted)))
    ∧ (s.loader.phase = .settings →
        let failed := fun (l : Loader) (f : LoadFault) =>
          ({ l with phase := .failing f, bus := [.receive 16 true] } : Loader)
        (¬ good →
          exec (.settingsRecord bytes) s
            = into (failed s.loader { reason := .badRecord, index := some 0, why := some .badField }))
        ∧ (good → s.loader.abortAsked = false →
            exec (.settingsRecord bytes) s
              = into
                  (if 0 < s.loader.agentCount + s.loader.windowCount then
                    { kept with phase := .record 1, bus := [.receive 16 false] }
                  else { kept with phase := .ending, bus := [.receive 16 true] }))
        ∧ (good → s.loader.abortAsked = true → exec (.settingsRecord bytes) s = into (failed kept aborted)))

/-- An agent record of the image is checked as AGENT SET's operands and applied with its effect, and a window record by the
checks of WINDOW CREATE (WindowCreateChecksInOrder says them) and applied with its effect, its map over the whole active map
and its activate-at-end flag noted; a record that fails its check is BAD_RECORD with its index and the reason it drew (R166,
R167; the order against an undefined activate-at-end code is the model's, log 25). A record completed after an abort was asked
for is checked and, when it passes, applied as well, and the load is then to end with ABORTED (R170); that the record's last
byte is then the byte in progress is the model's, log 19. -/
def Obligations.ImageRecordsAreApplied : Prop :=
  ∀ (s : State) (bytes : List Byte) (n : Nat), s.rstLow = false → s.loader.phase = .record n →
    let failed := fun (why : Reason) =>
      (.next
        { s with
          loader :=
            { s.loader with
              phase := .failing { reason := .badRecord, index := some n, why := some why }
              bus := [.receive bytes.length true] } } : Result)
    let sum := s.loader.runningSum + BitVec.ofNat 16 (bytes.map BitVec.toNat).sum
    let more := n < s.loader.agentCount + s.loader.windowCount
    let on : Loader :=
      if s.loader.abortAsked then
        { s.loader with
          phase := .failing { reason := .aborted, index := none, why := none }, runningSum := sum
          bus := [.receive bytes.length true] }
      else
        { s.loader with
          phase := if more then .record (n + 1) else .ending, runningSum := sum
          bus := [.receive bytes.length (decide (¬ more))] }
    let byte := fun k => bytes.getD k 0
    (1 ≤ n → n ≤ s.loader.agentCount → bytes.length = 8 →
      (31 < (byte 0).toNat → exec (.agentRecord bytes) s = failed .badAgent)
      ∧ ((byte 0).toNat ≤ 31 →
          1 < (byte 1).toNat ∨ 7 < (byte 2).toNat ∨ 3 < (byte 3).toNat ∨ 8 < (byte 4).toNat →
          exec (.agentRecord bytes) s = failed .badField)
      ∧ ∀ (a : AgentId) (c : ClassId) (l : LaneId), agentOf (byte 0) = some a → (byte 1).toNat ≤ 1 →
          (byte 2).toNat = c.val → (byte 3).toNat = l.val → (byte 4).toNat ≤ 8 →
          (∀ i, (s.entry i).state = .free) → (s.agent a).inUse = 0 →
          exec (.agentRecord bytes) s
            = .next
                { s.putAgent a
                    { enabled := byte 1 == 1, cls := c, lane := l, quota := (byte 4).toNat, inUse := 0 } with
                  loader := on })
    ∧ (s.loader.agentCount < n → n ≤ s.loader.agentCount + s.loader.windowCount → bytes.length = 64 →
        let block := parseBlock (bytes.drop 2)
        (∀ why, s.createCheck (byte 0) (byte 1) block = .error why → exec (.windowRecord bytes) s = failed why)
        ∧ ∀ k role, s.createCheck (byte 0) (byte 1) block = .ok (k, role) →
            (1 < (byte 30).toNat → exec (.windowRecord bytes) s = failed .badField)
            ∧ ((byte 30).toNat ≤ 1 →
                ∃ m : BitVec 256,
                  (∀ i, i < 256 →
                    m.getLsbD i = (byte (32 + 4 * (i / 32) + (3 - i % 32 / 8))).getLsbD (i % 8))
                  ∧ exec (.windowRecord bytes) s
                    = .next
                        { s.putWindow k { Window.create role block with activeMap := m } with
                          loader :=
                            { on with
                              activateAtEnd :=
                                if byte 30 = 1 then s.loader.activateAtEnd ||| (1#64 <<< k.val)
                                else s.loader.activateAtEnd } }))

/-- A load that succeeds applies its held settings, activates the flagged SOLO and HEAD windows in rising slot order, runs
the Timebase where asked, and ends DONE in READY with LOAD_DONE (R168). A load that fails, by the fault found, by a sum that
differs or by an abort asked for, clears the slots, the entries and the agents, discards the held settings, and ends FAILED
in READY with LOAD_FAIL; everything else is kept (R166, R167, R170). At the end the loader completes a byte in progress at an
abort, makes a stop where a start has been made, and releases both lines (R164, R165, R170). The points at which an abort ends
the load are the model's, log 19; a freed slot's other fields log 13, and the loader's fields between loads log 12. -/
def Obligations.LoadEndsInSuccessOrFailure : Prop :=
  (∀ (s : State) (h : HeldSettings), s.rstLow = false → s.loader.phase = .ending → s.loader.abortAsked = false →
    s.loader.runningSum = s.loader.sumField → s.loader.settings = some h →
    let loaded : State :=
      { s with
        timebase := { s.timebase with divider := h.divider, subTick := 0, restarted := s.timebase.running }
        drainLimit := h.drainLimit
        attn := { s.attn with enables := h.enables } }
    let activated :=
      (List.finRange 64).foldl
        (fun t k =>
          if s.loader.activateAtEnd.getLsbD k.val = true ∧ (t.window k).isMember = false
              ∧ (t.window k).state = .staged then t.activateUnit k
          else t)
        loaded
    exec .loadSuccess s
      = .next
          { activated with
            timebase := { loaded.timebase with running := s.timebase.running || h.runAtEnd }
            service := .ready
            loader :=
              { Loader.reset with
                result := { outcome := .done, fault := none, attempts := s.loader.result.attempts }
                bus := (if s.loader.started then [.stop] else []) ++ [.release] }
            attn := { loaded.attn with causes := s.attn.causes ||| 0x40#8 } })
  ∧ (∀ (s : State) (f : LoadFault), s.rstLow = false →
    let ends := fun (f : LoadFault) (byte : List BusEvent) =>
      ∃ t : State, exec .loadFailure s = .next t
        ∧ t = { s with
                windows := t.windows, entries := t.entries, agents := t.agents, gates := t.gates
                service := .ready
                loader :=
                  { Loader.reset with
                    result := { outcome := .failed, fault := some f, attempts := s.loader.result.attempts }
                    bus := byte ++ (if s.loader.started then [.stop] else []) ++ [.release] }
                attn := { s.attn with causes := s.attn.causes ||| 0x80#8 } }
        ∧ (∀ k, t.window k = Window.free) ∧ (∀ i, t.entry i = Entry.free) ∧ (∀ a, t.agent a = AgentRecord.reset)
        ∧ s.GatesReported t
    let aborted : LoadFault := { reason := .aborted, index := none, why := none }
    (s.loader.phase = .failing f → ends f [])
    ∧ (s.loader.phase = .ending → s.loader.abortAsked = false → s.loader.runningSum ≠ s.loader.sumField →
        ends { reason := .badSum, index := none, why := none } [])
    ∧ (s.loader.abortAsked = true → s.loader.phase = .busCheck ∨ s.loader.phase = .ending → ends aborted [])
    ∧ (s.loader.abortAsked = true →
        s.loader.phase = .addressing ∨ s.loader.phase = .settings ∨ (∃ i, s.loader.phase = .record i) →
        ends aborted [.finishByte]))

/-! ### What every step keeps -/

/-- Right after reset every property that the statements below keep holds: the gates follow their slots, the windows, the
groups, the Timebase, the load and the lanes are in range and agree, the entries are counted, queued and distinct, and the
claims fit. -/
def Obligations.PropertiesHoldAtReset : Prop :=
  GatesFollow State.reset ∧ TogglesQuiet State.reset ∧ WindowsInRange State.reset ∧ GroupsAgree State.reset
    ∧ PartInRange State.reset ∧ LoadingAgrees State.reset ∧ AgentsCounted State.reset ∧ QueuesOrdered State.reset
    ∧ ClaimsDistinct State.reset ∧ ClaimsFit State.reset ∧ HoldersFit State.reset ∧ LanesAgree State.reset

/-- Every step keeps a bound LEVEL gate ACTIVE exactly while its slot is OPEN, whatever opens or closes it, and an unbound
gate INACTIVE (R24, R144, R145). -/
def Obligations.StepsKeepGatesFollowing : Prop :=
  ∀ s t : State, GatesFollow s → step s = .next t → GatesFollow t

/-- Every step keeps the groups whole: each MEMBER behind a HEAD without a gap, in its state but for a member FROZEN alone
(R80, R81); and a TOGGLE gate ACTIVE only while its slot is OPEN (R24, R145). -/
def Obligations.StepsKeepGroupsAgreeing : Prop :=
  ∀ s t : State, GroupsAgree s → TogglesQuiet s → step s = .next t → GroupsAgree t ∧ TogglesQuiet t

/-- Every step keeps every window of a part whose groups are whole in its ranges: base aligned and span within the address
space as walking moves it, maps agreeing, leases counted (R4 to R11, R14, R26, R32, R65, R68). -/
def Obligations.StepsKeepWindowsInRange : Prop :=
  ∀ s t : State, GroupsAgree s → WindowsInRange s → PartInRange s → step s = .next t → WindowsInRange t

/-- Every step keeps the Timebase, the drain limit, the run counts and the load's settings and attempts in their ranges
(R34, R59, R127, R163, R166); the service state LOADING exactly while a load is in progress (R162, R163); and every lane with
at most one request, held or answered (R136 to R138). -/
def Obligations.StepsKeepPartLoadAndLanesAgreeing : Prop :=
  (∀ s t : State, PartInRange s → step s = .next t → PartInRange t)
  ∧ (∀ s t : State, LoadingAgrees s → step s = .next t → LoadingAgrees t)
  ∧ ∀ s t : State, LanesAgree s → step s = .next t → LanesAgree t

/-- Every step keeps each agent's claims in use equal to its WAITING and HELD entries and within its quota (R96, R130), the
wait queues in order, without a repeat (R94, R97), and no agent with two WAITING or HELD entries that name the same window
(R99). -/
def Obligations.StepsKeepEntriesCounted : Prop :=
  (∀ s t : State, AgentsCounted s → step s = .next t → AgentsCounted t)
  ∧ (∀ s t : State, QueuesOrdered s → step s = .next t → QueuesOrdered t)
  ∧ ∀ s t : State, ClaimsDistinct s → step s = .next t → ClaimsDistinct t

/-- Every step keeps the claims fitting: WAITING and HELD entries only on windows that can have them, holders within the
claim limit, and a WRITE holder alone (R103, R106). -/
def Obligations.StepsKeepClaimsFitting : Prop :=
  ∀ s t : State, GroupsAgree s → WindowsInRange s → ClaimsFit s → HoldersFit s → step s = .next t →
    ClaimsFit t ∧ HoldersFit t
end

