-- ==== Sys2Proof/Laws/State.lean ====
section
/-! SUPPORT. One lemma per field per update of State: what each named update leaves alone, and what it writes. -/

namespace Sys2Proof.Machine

/-! ### A vector by its elements -/

@[simp] theorem tabulate_get {α : Type} (n : Nat) (f : Fin n → α) (i : Fin n) : (tabulate n f)[i] = f i := by
  simp [tabulate]

/-- Tabulating a vector's own elements gives the vector back. -/
@[simp] theorem tabulate_self {α : Type} {n : Nat} (v : Vector α n) : (tabulate n fun i => v[i]) = v := by
  ext i hi
  exact tabulate_get n (fun i => v[i]) ⟨i, hi⟩


/-! ### What `State.putWindow` leaves alone -/

@[simp] theorem State.putWindow_rstLow (s : State) (k : SlotId) (w : Window) : (s.putWindow k w).rstLow = s.rstLow := rfl
@[simp] theorem State.putWindow_service (s : State) (k : SlotId) (w : Window) : (s.putWindow k w).service = s.service := rfl
@[simp] theorem State.putWindow_imga (s : State) (k : SlotId) (w : Window) : (s.putWindow k w).imga = s.imga := rfl
@[simp] theorem State.putWindow_naks (s : State) (k : SlotId) (w : Window) : (s.putWindow k w).naks = s.naks := rfl
@[simp] theorem State.putWindow_drainLimit (s : State) (k : SlotId) (w : Window) : (s.putWindow k w).drainLimit = s.drainLimit := rfl
@[simp] theorem State.putWindow_entries (s : State) (k : SlotId) (w : Window) : (s.putWindow k w).entries = s.entries := rfl
@[simp] theorem State.putWindow_agents (s : State) (k : SlotId) (w : Window) : (s.putWindow k w).agents = s.agents := rfl
@[simp] theorem State.putWindow_lanes (s : State) (k : SlotId) (w : Window) : (s.putWindow k w).lanes = s.lanes := rfl
@[simp] theorem State.putWindow_pointer (s : State) (k : SlotId) (w : Window) : (s.putWindow k w).pointer = s.pointer := rfl
@[simp] theorem State.putWindow_timebase (s : State) (k : SlotId) (w : Window) : (s.putWindow k w).timebase = s.timebase := rfl
@[simp] theorem State.putWindow_pairA (s : State) (k : SlotId) (w : Window) : (s.putWindow k w).pairA = s.pairA := rfl
@[simp] theorem State.putWindow_pairB (s : State) (k : SlotId) (w : Window) : (s.putWindow k w).pairB = s.pairB := rfl
@[simp] theorem State.putWindow_attn (s : State) (k : SlotId) (w : Window) : (s.putWindow k w).attn = s.attn := rfl
@[simp] theorem State.putWindow_port (s : State) (k : SlotId) (w : Window) : (s.putWindow k w).port = s.port := rfl
@[simp] theorem State.putWindow_loader (s : State) (k : SlotId) (w : Window) : (s.putWindow k w).loader = s.loader := rfl
@[simp] theorem State.putWindow_pending (s : State) (k : SlotId) (w : Window) : (s.putWindow k w).pending = s.pending := rfl

/-! ### What `State.modifyWindow` leaves alone -/

@[simp] theorem State.modifyWindow_rstLow (s : State) (k : SlotId) (f : Window → Window) : (s.modifyWindow k f).rstLow = s.rstLow := rfl
@[simp] theorem State.modifyWindow_service (s : State) (k : SlotId) (f : Window → Window) : (s.modifyWindow k f).service = s.service := rfl
@[simp] theorem State.modifyWindow_imga (s : State) (k : SlotId) (f : Window → Window) : (s.modifyWindow k f).imga = s.imga := rfl
@[simp] theorem State.modifyWindow_naks (s : State) (k : SlotId) (f : Window → Window) : (s.modifyWindow k f).naks = s.naks := rfl
@[simp] theorem State.modifyWindow_drainLimit (s : State) (k : SlotId) (f : Window → Window) : (s.modifyWindow k f).drainLimit = s.drainLimit := rfl
@[simp] theorem State.modifyWindow_entries (s : State) (k : SlotId) (f : Window → Window) : (s.modifyWindow k f).entries = s.entries := rfl
@[simp] theorem State.modifyWindow_agents (s : State) (k : SlotId) (f : Window → Window) : (s.modifyWindow k f).agents = s.agents := rfl
@[simp] theorem State.modifyWindow_lanes (s : State) (k : SlotId) (f : Window → Window) : (s.modifyWindow k f).lanes = s.lanes := rfl
@[simp] theorem State.modifyWindow_pointer (s : State) (k : SlotId) (f : Window → Window) : (s.modifyWindow k f).pointer = s.pointer := rfl
@[simp] theorem State.modifyWindow_timebase (s : State) (k : SlotId) (f : Window → Window) : (s.modifyWindow k f).timebase = s.timebase := rfl
@[simp] theorem State.modifyWindow_pairA (s : State) (k : SlotId) (f : Window → Window) : (s.modifyWindow k f).pairA = s.pairA := rfl
@[simp] theorem State.modifyWindow_pairB (s : State) (k : SlotId) (f : Window → Window) : (s.modifyWindow k f).pairB = s.pairB := rfl
@[simp] theorem State.modifyWindow_attn (s : State) (k : SlotId) (f : Window → Window) : (s.modifyWindow k f).attn = s.attn := rfl
@[simp] theorem State.modifyWindow_port (s : State) (k : SlotId) (f : Window → Window) : (s.modifyWindow k f).port = s.port := rfl
@[simp] theorem State.modifyWindow_loader (s : State) (k : SlotId) (f : Window → Window) : (s.modifyWindow k f).loader = s.loader := rfl
@[simp] theorem State.modifyWindow_pending (s : State) (k : SlotId) (f : Window → Window) : (s.modifyWindow k f).pending = s.pending := rfl

/-! ### What `State.putEntry` leaves alone -/

@[simp] theorem State.putEntry_rstLow (s : State) (i : EntryId) (e : Entry) : (s.putEntry i e).rstLow = s.rstLow := rfl
@[simp] theorem State.putEntry_service (s : State) (i : EntryId) (e : Entry) : (s.putEntry i e).service = s.service := rfl
@[simp] theorem State.putEntry_imga (s : State) (i : EntryId) (e : Entry) : (s.putEntry i e).imga = s.imga := rfl
@[simp] theorem State.putEntry_naks (s : State) (i : EntryId) (e : Entry) : (s.putEntry i e).naks = s.naks := rfl
@[simp] theorem State.putEntry_windows (s : State) (i : EntryId) (e : Entry) : (s.putEntry i e).windows = s.windows := rfl
@[simp] theorem State.putEntry_drainLimit (s : State) (i : EntryId) (e : Entry) : (s.putEntry i e).drainLimit = s.drainLimit := rfl
@[simp] theorem State.putEntry_agents (s : State) (i : EntryId) (e : Entry) : (s.putEntry i e).agents = s.agents := rfl
@[simp] theorem State.putEntry_lanes (s : State) (i : EntryId) (e : Entry) : (s.putEntry i e).lanes = s.lanes := rfl
@[simp] theorem State.putEntry_pointer (s : State) (i : EntryId) (e : Entry) : (s.putEntry i e).pointer = s.pointer := rfl
@[simp] theorem State.putEntry_timebase (s : State) (i : EntryId) (e : Entry) : (s.putEntry i e).timebase = s.timebase := rfl
@[simp] theorem State.putEntry_pairA (s : State) (i : EntryId) (e : Entry) : (s.putEntry i e).pairA = s.pairA := rfl
@[simp] theorem State.putEntry_pairB (s : State) (i : EntryId) (e : Entry) : (s.putEntry i e).pairB = s.pairB := rfl
@[simp] theorem State.putEntry_gates (s : State) (i : EntryId) (e : Entry) : (s.putEntry i e).gates = s.gates := rfl
@[simp] theorem State.putEntry_attn (s : State) (i : EntryId) (e : Entry) : (s.putEntry i e).attn = s.attn := rfl
@[simp] theorem State.putEntry_port (s : State) (i : EntryId) (e : Entry) : (s.putEntry i e).port = s.port := rfl
@[simp] theorem State.putEntry_loader (s : State) (i : EntryId) (e : Entry) : (s.putEntry i e).loader = s.loader := rfl
@[simp] theorem State.putEntry_pending (s : State) (i : EntryId) (e : Entry) : (s.putEntry i e).pending = s.pending := rfl

/-! ### What `State.putAgent` leaves alone -/

@[simp] theorem State.putAgent_rstLow (s : State) (a : AgentId) (r : AgentRecord) : (s.putAgent a r).rstLow = s.rstLow := rfl
@[simp] theorem State.putAgent_service (s : State) (a : AgentId) (r : AgentRecord) : (s.putAgent a r).service = s.service := rfl
@[simp] theorem State.putAgent_imga (s : State) (a : AgentId) (r : AgentRecord) : (s.putAgent a r).imga = s.imga := rfl
@[simp] theorem State.putAgent_naks (s : State) (a : AgentId) (r : AgentRecord) : (s.putAgent a r).naks = s.naks := rfl
@[simp] theorem State.putAgent_windows (s : State) (a : AgentId) (r : AgentRecord) : (s.putAgent a r).windows = s.windows := rfl
@[simp] theorem State.putAgent_drainLimit (s : State) (a : AgentId) (r : AgentRecord) : (s.putAgent a r).drainLimit = s.drainLimit := rfl
@[simp] theorem State.putAgent_entries (s : State) (a : AgentId) (r : AgentRecord) : (s.putAgent a r).entries = s.entries := rfl
@[simp] theorem State.putAgent_lanes (s : State) (a : AgentId) (r : AgentRecord) : (s.putAgent a r).lanes = s.lanes := rfl
@[simp] theorem State.putAgent_pointer (s : State) (a : AgentId) (r : AgentRecord) : (s.putAgent a r).pointer = s.pointer := rfl
@[simp] theorem State.putAgent_timebase (s : State) (a : AgentId) (r : AgentRecord) : (s.putAgent a r).timebase = s.timebase := rfl
@[simp] theorem State.putAgent_pairA (s : State) (a : AgentId) (r : AgentRecord) : (s.putAgent a r).pairA = s.pairA := rfl
@[simp] theorem State.putAgent_pairB (s : State) (a : AgentId) (r : AgentRecord) : (s.putAgent a r).pairB = s.pairB := rfl
@[simp] theorem State.putAgent_gates (s : State) (a : AgentId) (r : AgentRecord) : (s.putAgent a r).gates = s.gates := rfl
@[simp] theorem State.putAgent_attn (s : State) (a : AgentId) (r : AgentRecord) : (s.putAgent a r).attn = s.attn := rfl
@[simp] theorem State.putAgent_port (s : State) (a : AgentId) (r : AgentRecord) : (s.putAgent a r).port = s.port := rfl
@[simp] theorem State.putAgent_loader (s : State) (a : AgentId) (r : AgentRecord) : (s.putAgent a r).loader = s.loader := rfl
@[simp] theorem State.putAgent_pending (s : State) (a : AgentId) (r : AgentRecord) : (s.putAgent a r).pending = s.pending := rfl

/-! ### What `State.putLane` leaves alone -/

@[simp] theorem State.putLane_rstLow (s : State) (l : LaneId) (x : Lane) : (s.putLane l x).rstLow = s.rstLow := rfl
@[simp] theorem State.putLane_service (s : State) (l : LaneId) (x : Lane) : (s.putLane l x).service = s.service := rfl
@[simp] theorem State.putLane_imga (s : State) (l : LaneId) (x : Lane) : (s.putLane l x).imga = s.imga := rfl
@[simp] theorem State.putLane_naks (s : State) (l : LaneId) (x : Lane) : (s.putLane l x).naks = s.naks := rfl
@[simp] theorem State.putLane_windows (s : State) (l : LaneId) (x : Lane) : (s.putLane l x).windows = s.windows := rfl
@[simp] theorem State.putLane_drainLimit (s : State) (l : LaneId) (x : Lane) : (s.putLane l x).drainLimit = s.drainLimit := rfl
@[simp] theorem State.putLane_entries (s : State) (l : LaneId) (x : Lane) : (s.putLane l x).entries = s.entries := rfl
@[simp] theorem State.putLane_agents (s : State) (l : LaneId) (x : Lane) : (s.putLane l x).agents = s.agents := rfl
@[simp] theorem State.putLane_pointer (s : State) (l : LaneId) (x : Lane) : (s.putLane l x).pointer = s.pointer := rfl
@[simp] theorem State.putLane_timebase (s : State) (l : LaneId) (x : Lane) : (s.putLane l x).timebase = s.timebase := rfl
@[simp] theorem State.putLane_pairA (s : State) (l : LaneId) (x : Lane) : (s.putLane l x).pairA = s.pairA := rfl
@[simp] theorem State.putLane_pairB (s : State) (l : LaneId) (x : Lane) : (s.putLane l x).pairB = s.pairB := rfl
@[simp] theorem State.putLane_gates (s : State) (l : LaneId) (x : Lane) : (s.putLane l x).gates = s.gates := rfl
@[simp] theorem State.putLane_attn (s : State) (l : LaneId) (x : Lane) : (s.putLane l x).attn = s.attn := rfl
@[simp] theorem State.putLane_port (s : State) (l : LaneId) (x : Lane) : (s.putLane l x).port = s.port := rfl
@[simp] theorem State.putLane_loader (s : State) (l : LaneId) (x : Lane) : (s.putLane l x).loader = s.loader := rfl
@[simp] theorem State.putLane_pending (s : State) (l : LaneId) (x : Lane) : (s.putLane l x).pending = s.pending := rfl

/-! ### What `State.putGate` leaves alone -/

@[simp] theorem State.putGate_rstLow (s : State) (g : GateId) (x : Gate) : (s.putGate g x).rstLow = s.rstLow := rfl
@[simp] theorem State.putGate_service (s : State) (g : GateId) (x : Gate) : (s.putGate g x).service = s.service := rfl
@[simp] theorem State.putGate_imga (s : State) (g : GateId) (x : Gate) : (s.putGate g x).imga = s.imga := rfl
@[simp] theorem State.putGate_naks (s : State) (g : GateId) (x : Gate) : (s.putGate g x).naks = s.naks := rfl
@[simp] theorem State.putGate_windows (s : State) (g : GateId) (x : Gate) : (s.putGate g x).windows = s.windows := rfl
@[simp] theorem State.putGate_drainLimit (s : State) (g : GateId) (x : Gate) : (s.putGate g x).drainLimit = s.drainLimit := rfl
@[simp] theorem State.putGate_entries (s : State) (g : GateId) (x : Gate) : (s.putGate g x).entries = s.entries := rfl
@[simp] theorem State.putGate_agents (s : State) (g : GateId) (x : Gate) : (s.putGate g x).agents = s.agents := rfl
@[simp] theorem State.putGate_lanes (s : State) (g : GateId) (x : Gate) : (s.putGate g x).lanes = s.lanes := rfl
@[simp] theorem State.putGate_pointer (s : State) (g : GateId) (x : Gate) : (s.putGate g x).pointer = s.pointer := rfl
@[simp] theorem State.putGate_timebase (s : State) (g : GateId) (x : Gate) : (s.putGate g x).timebase = s.timebase := rfl
@[simp] theorem State.putGate_pairA (s : State) (g : GateId) (x : Gate) : (s.putGate g x).pairA = s.pairA := rfl
@[simp] theorem State.putGate_pairB (s : State) (g : GateId) (x : Gate) : (s.putGate g x).pairB = s.pairB := rfl
@[simp] theorem State.putGate_attn (s : State) (g : GateId) (x : Gate) : (s.putGate g x).attn = s.attn := rfl
@[simp] theorem State.putGate_port (s : State) (g : GateId) (x : Gate) : (s.putGate g x).port = s.port := rfl
@[simp] theorem State.putGate_loader (s : State) (g : GateId) (x : Gate) : (s.putGate g x).loader = s.loader := rfl
@[simp] theorem State.putGate_pending (s : State) (g : GateId) (x : Gate) : (s.putGate g x).pending = s.pending := rfl

/-! ### What `State.mapEntries` leaves alone -/

@[simp] theorem State.mapEntries_rstLow (s : State) (f : Entry → Entry) : (s.mapEntries f).rstLow = s.rstLow := rfl
@[simp] theorem State.mapEntries_service (s : State) (f : Entry → Entry) : (s.mapEntries f).service = s.service := rfl
@[simp] theorem State.mapEntries_imga (s : State) (f : Entry → Entry) : (s.mapEntries f).imga = s.imga := rfl
@[simp] theorem State.mapEntries_naks (s : State) (f : Entry → Entry) : (s.mapEntries f).naks = s.naks := rfl
@[simp] theorem State.mapEntries_windows (s : State) (f : Entry → Entry) : (s.mapEntries f).windows = s.windows := rfl
@[simp] theorem State.mapEntries_drainLimit (s : State) (f : Entry → Entry) : (s.mapEntries f).drainLimit = s.drainLimit := rfl
@[simp] theorem State.mapEntries_agents (s : State) (f : Entry → Entry) : (s.mapEntries f).agents = s.agents := rfl
@[simp] theorem State.mapEntries_lanes (s : State) (f : Entry → Entry) : (s.mapEntries f).lanes = s.lanes := rfl
@[simp] theorem State.mapEntries_pointer (s : State) (f : Entry → Entry) : (s.mapEntries f).pointer = s.pointer := rfl
@[simp] theorem State.mapEntries_timebase (s : State) (f : Entry → Entry) : (s.mapEntries f).timebase = s.timebase := rfl
@[simp] theorem State.mapEntries_pairA (s : State) (f : Entry → Entry) : (s.mapEntries f).pairA = s.pairA := rfl
@[simp] theorem State.mapEntries_pairB (s : State) (f : Entry → Entry) : (s.mapEntries f).pairB = s.pairB := rfl
@[simp] theorem State.mapEntries_gates (s : State) (f : Entry → Entry) : (s.mapEntries f).gates = s.gates := rfl
@[simp] theorem State.mapEntries_attn (s : State) (f : Entry → Entry) : (s.mapEntries f).attn = s.attn := rfl
@[simp] theorem State.mapEntries_port (s : State) (f : Entry → Entry) : (s.mapEntries f).port = s.port := rfl
@[simp] theorem State.mapEntries_loader (s : State) (f : Entry → Entry) : (s.mapEntries f).loader = s.loader := rfl
@[simp] theorem State.mapEntries_pending (s : State) (f : Entry → Entry) : (s.mapEntries f).pending = s.pending := rfl

/-! ### What `State.raise` leaves alone -/

@[simp] theorem State.raise_rstLow (s : State) (c : Cause) : (s.raise c).rstLow = s.rstLow := rfl
@[simp] theorem State.raise_service (s : State) (c : Cause) : (s.raise c).service = s.service := rfl
@[simp] theorem State.raise_imga (s : State) (c : Cause) : (s.raise c).imga = s.imga := rfl
@[simp] theorem State.raise_naks (s : State) (c : Cause) : (s.raise c).naks = s.naks := rfl
@[simp] theorem State.raise_windows (s : State) (c : Cause) : (s.raise c).windows = s.windows := rfl
@[simp] theorem State.raise_drainLimit (s : State) (c : Cause) : (s.raise c).drainLimit = s.drainLimit := rfl
@[simp] theorem State.raise_entries (s : State) (c : Cause) : (s.raise c).entries = s.entries := rfl
@[simp] theorem State.raise_agents (s : State) (c : Cause) : (s.raise c).agents = s.agents := rfl
@[simp] theorem State.raise_lanes (s : State) (c : Cause) : (s.raise c).lanes = s.lanes := rfl
@[simp] theorem State.raise_pointer (s : State) (c : Cause) : (s.raise c).pointer = s.pointer := rfl
@[simp] theorem State.raise_timebase (s : State) (c : Cause) : (s.raise c).timebase = s.timebase := rfl
@[simp] theorem State.raise_pairA (s : State) (c : Cause) : (s.raise c).pairA = s.pairA := rfl
@[simp] theorem State.raise_pairB (s : State) (c : Cause) : (s.raise c).pairB = s.pairB := rfl
@[simp] theorem State.raise_gates (s : State) (c : Cause) : (s.raise c).gates = s.gates := rfl
@[simp] theorem State.raise_port (s : State) (c : Cause) : (s.raise c).port = s.port := rfl
@[simp] theorem State.raise_loader (s : State) (c : Cause) : (s.raise c).loader = s.loader := rfl
@[simp] theorem State.raise_pending (s : State) (c : Cause) : (s.raise c).pending = s.pending := rfl

/-! ### What `State.addExpired` leaves alone -/

@[simp] theorem State.addExpired_rstLow (s : State) (k : SlotId) : (s.addExpired k).rstLow = s.rstLow := rfl
@[simp] theorem State.addExpired_service (s : State) (k : SlotId) : (s.addExpired k).service = s.service := rfl
@[simp] theorem State.addExpired_imga (s : State) (k : SlotId) : (s.addExpired k).imga = s.imga := rfl
@[simp] theorem State.addExpired_naks (s : State) (k : SlotId) : (s.addExpired k).naks = s.naks := rfl
@[simp] theorem State.addExpired_windows (s : State) (k : SlotId) : (s.addExpired k).windows = s.windows := rfl
@[simp] theorem State.addExpired_drainLimit (s : State) (k : SlotId) : (s.addExpired k).drainLimit = s.drainLimit := rfl
@[simp] theorem State.addExpired_entries (s : State) (k : SlotId) : (s.addExpired k).entries = s.entries := rfl
@[simp] theorem State.addExpired_agents (s : State) (k : SlotId) : (s.addExpired k).agents = s.agents := rfl
@[simp] theorem State.addExpired_lanes (s : State) (k : SlotId) : (s.addExpired k).lanes = s.lanes := rfl
@[simp] theorem State.addExpired_pointer (s : State) (k : SlotId) : (s.addExpired k).pointer = s.pointer := rfl
@[simp] theorem State.addExpired_timebase (s : State) (k : SlotId) : (s.addExpired k).timebase = s.timebase := rfl
@[simp] theorem State.addExpired_pairA (s : State) (k : SlotId) : (s.addExpired k).pairA = s.pairA := rfl
@[simp] theorem State.addExpired_pairB (s : State) (k : SlotId) : (s.addExpired k).pairB = s.pairB := rfl
@[simp] theorem State.addExpired_gates (s : State) (k : SlotId) : (s.addExpired k).gates = s.gates := rfl
@[simp] theorem State.addExpired_port (s : State) (k : SlotId) : (s.addExpired k).port = s.port := rfl
@[simp] theorem State.addExpired_loader (s : State) (k : SlotId) : (s.addExpired k).loader = s.loader := rfl
@[simp] theorem State.addExpired_pending (s : State) (k : SlotId) : (s.addExpired k).pending = s.pending := rfl

/-! ### What `State.flipToggles` leaves alone -/

@[simp] theorem State.flipToggles_rstLow (s : State) (k : SlotId) : (s.flipToggles k).rstLow = s.rstLow := rfl
@[simp] theorem State.flipToggles_service (s : State) (k : SlotId) : (s.flipToggles k).service = s.service := rfl
@[simp] theorem State.flipToggles_imga (s : State) (k : SlotId) : (s.flipToggles k).imga = s.imga := rfl
@[simp] theorem State.flipToggles_naks (s : State) (k : SlotId) : (s.flipToggles k).naks = s.naks := rfl
@[simp] theorem State.flipToggles_windows (s : State) (k : SlotId) : (s.flipToggles k).windows = s.windows := rfl
@[simp] theorem State.flipToggles_drainLimit (s : State) (k : SlotId) : (s.flipToggles k).drainLimit = s.drainLimit := rfl
@[simp] theorem State.flipToggles_entries (s : State) (k : SlotId) : (s.flipToggles k).entries = s.entries := rfl
@[simp] theorem State.flipToggles_agents (s : State) (k : SlotId) : (s.flipToggles k).agents = s.agents := rfl
@[simp] theorem State.flipToggles_lanes (s : State) (k : SlotId) : (s.flipToggles k).lanes = s.lanes := rfl
@[simp] theorem State.flipToggles_pointer (s : State) (k : SlotId) : (s.flipToggles k).pointer = s.pointer := rfl
@[simp] theorem State.flipToggles_timebase (s : State) (k : SlotId) : (s.flipToggles k).timebase = s.timebase := rfl
@[simp] theorem State.flipToggles_pairA (s : State) (k : SlotId) : (s.flipToggles k).pairA = s.pairA := rfl
@[simp] theorem State.flipToggles_pairB (s : State) (k : SlotId) : (s.flipToggles k).pairB = s.pairB := rfl
@[simp] theorem State.flipToggles_attn (s : State) (k : SlotId) : (s.flipToggles k).attn = s.attn := rfl
@[simp] theorem State.flipToggles_port (s : State) (k : SlotId) : (s.flipToggles k).port = s.port := rfl
@[simp] theorem State.flipToggles_loader (s : State) (k : SlotId) : (s.flipToggles k).loader = s.loader := rfl
@[simp] theorem State.flipToggles_pending (s : State) (k : SlotId) : (s.flipToggles k).pending = s.pending := rfl

/-! ### What `State.putPair` leaves alone -/

@[simp] theorem State.putPair_rstLow (s : State) (p : PulsePair) (x : PairState) : (s.putPair p x).rstLow = s.rstLow := by cases p <;> rfl
@[simp] theorem State.putPair_service (s : State) (p : PulsePair) (x : PairState) : (s.putPair p x).service = s.service := by cases p <;> rfl
@[simp] theorem State.putPair_imga (s : State) (p : PulsePair) (x : PairState) : (s.putPair p x).imga = s.imga := by cases p <;> rfl
@[simp] theorem State.putPair_naks (s : State) (p : PulsePair) (x : PairState) : (s.putPair p x).naks = s.naks := by cases p <;> rfl
@[simp] theorem State.putPair_windows (s : State) (p : PulsePair) (x : PairState) : (s.putPair p x).windows = s.windows := by cases p <;> rfl
@[simp] theorem State.putPair_drainLimit (s : State) (p : PulsePair) (x : PairState) : (s.putPair p x).drainLimit = s.drainLimit := by cases p <;> rfl
@[simp] theorem State.putPair_entries (s : State) (p : PulsePair) (x : PairState) : (s.putPair p x).entries = s.entries := by cases p <;> rfl
@[simp] theorem State.putPair_agents (s : State) (p : PulsePair) (x : PairState) : (s.putPair p x).agents = s.agents := by cases p <;> rfl
@[simp] theorem State.putPair_lanes (s : State) (p : PulsePair) (x : PairState) : (s.putPair p x).lanes = s.lanes := by cases p <;> rfl
@[simp] theorem State.putPair_pointer (s : State) (p : PulsePair) (x : PairState) : (s.putPair p x).pointer = s.pointer := by cases p <;> rfl
@[simp] theorem State.putPair_timebase (s : State) (p : PulsePair) (x : PairState) : (s.putPair p x).timebase = s.timebase := by cases p <;> rfl
@[simp] theorem State.putPair_gates (s : State) (p : PulsePair) (x : PairState) : (s.putPair p x).gates = s.gates := by cases p <;> rfl
@[simp] theorem State.putPair_attn (s : State) (p : PulsePair) (x : PairState) : (s.putPair p x).attn = s.attn := by cases p <;> rfl
@[simp] theorem State.putPair_port (s : State) (p : PulsePair) (x : PairState) : (s.putPair p x).port = s.port := by cases p <;> rfl
@[simp] theorem State.putPair_loader (s : State) (p : PulsePair) (x : PairState) : (s.putPair p x).loader = s.loader := by cases p <;> rfl
@[simp] theorem State.putPair_pending (s : State) (p : PulsePair) (x : PairState) : (s.putPair p x).pending = s.pending := by cases p <;> rfl

/-! ### What `State.incInUse` leaves alone -/

@[simp] theorem State.incInUse_rstLow (s : State) (a : AgentId) : (s.incInUse a).rstLow = s.rstLow := rfl
@[simp] theorem State.incInUse_service (s : State) (a : AgentId) : (s.incInUse a).service = s.service := rfl
@[simp] theorem State.incInUse_imga (s : State) (a : AgentId) : (s.incInUse a).imga = s.imga := rfl
@[simp] theorem State.incInUse_naks (s : State) (a : AgentId) : (s.incInUse a).naks = s.naks := rfl
@[simp] theorem State.incInUse_windows (s : State) (a : AgentId) : (s.incInUse a).windows = s.windows := rfl
@[simp] theorem State.incInUse_drainLimit (s : State) (a : AgentId) : (s.incInUse a).drainLimit = s.drainLimit := rfl
@[simp] theorem State.incInUse_entries (s : State) (a : AgentId) : (s.incInUse a).entries = s.entries := rfl
@[simp] theorem State.incInUse_lanes (s : State) (a : AgentId) : (s.incInUse a).lanes = s.lanes := rfl
@[simp] theorem State.incInUse_pointer (s : State) (a : AgentId) : (s.incInUse a).pointer = s.pointer := rfl
@[simp] theorem State.incInUse_timebase (s : State) (a : AgentId) : (s.incInUse a).timebase = s.timebase := rfl
@[simp] theorem State.incInUse_pairA (s : State) (a : AgentId) : (s.incInUse a).pairA = s.pairA := rfl
@[simp] theorem State.incInUse_pairB (s : State) (a : AgentId) : (s.incInUse a).pairB = s.pairB := rfl
@[simp] theorem State.incInUse_gates (s : State) (a : AgentId) : (s.incInUse a).gates = s.gates := rfl
@[simp] theorem State.incInUse_attn (s : State) (a : AgentId) : (s.incInUse a).attn = s.attn := rfl
@[simp] theorem State.incInUse_port (s : State) (a : AgentId) : (s.incInUse a).port = s.port := rfl
@[simp] theorem State.incInUse_loader (s : State) (a : AgentId) : (s.incInUse a).loader = s.loader := rfl
@[simp] theorem State.incInUse_pending (s : State) (a : AgentId) : (s.incInUse a).pending = s.pending := rfl

/-! ### What `State.decInUse` leaves alone -/

@[simp] theorem State.decInUse_rstLow (s : State) (a : AgentId) : (s.decInUse a).rstLow = s.rstLow := rfl
@[simp] theorem State.decInUse_service (s : State) (a : AgentId) : (s.decInUse a).service = s.service := rfl
@[simp] theorem State.decInUse_imga (s : State) (a : AgentId) : (s.decInUse a).imga = s.imga := rfl
@[simp] theorem State.decInUse_naks (s : State) (a : AgentId) : (s.decInUse a).naks = s.naks := rfl
@[simp] theorem State.decInUse_windows (s : State) (a : AgentId) : (s.decInUse a).windows = s.windows := rfl
@[simp] theorem State.decInUse_drainLimit (s : State) (a : AgentId) : (s.decInUse a).drainLimit = s.drainLimit := rfl
@[simp] theorem State.decInUse_entries (s : State) (a : AgentId) : (s.decInUse a).entries = s.entries := rfl
@[simp] theorem State.decInUse_lanes (s : State) (a : AgentId) : (s.decInUse a).lanes = s.lanes := rfl
@[simp] theorem State.decInUse_pointer (s : State) (a : AgentId) : (s.decInUse a).pointer = s.pointer := rfl
@[simp] theorem State.decInUse_timebase (s : State) (a : AgentId) : (s.decInUse a).timebase = s.timebase := rfl
@[simp] theorem State.decInUse_pairA (s : State) (a : AgentId) : (s.decInUse a).pairA = s.pairA := rfl
@[simp] theorem State.decInUse_pairB (s : State) (a : AgentId) : (s.decInUse a).pairB = s.pairB := rfl
@[simp] theorem State.decInUse_gates (s : State) (a : AgentId) : (s.decInUse a).gates = s.gates := rfl
@[simp] theorem State.decInUse_attn (s : State) (a : AgentId) : (s.decInUse a).attn = s.attn := rfl
@[simp] theorem State.decInUse_port (s : State) (a : AgentId) : (s.decInUse a).port = s.port := rfl
@[simp] theorem State.decInUse_loader (s : State) (a : AgentId) : (s.decInUse a).loader = s.loader := rfl
@[simp] theorem State.decInUse_pending (s : State) (a : AgentId) : (s.decInUse a).pending = s.pending := rfl

/-! ### What `State.closeQueue` leaves alone -/

@[simp] theorem State.closeQueue_rstLow (s : State) (k : SlotId) (n : Nat) : (s.closeQueue k n).rstLow = s.rstLow := rfl
@[simp] theorem State.closeQueue_service (s : State) (k : SlotId) (n : Nat) : (s.closeQueue k n).service = s.service := rfl
@[simp] theorem State.closeQueue_imga (s : State) (k : SlotId) (n : Nat) : (s.closeQueue k n).imga = s.imga := rfl
@[simp] theorem State.closeQueue_naks (s : State) (k : SlotId) (n : Nat) : (s.closeQueue k n).naks = s.naks := rfl
@[simp] theorem State.closeQueue_windows (s : State) (k : SlotId) (n : Nat) : (s.closeQueue k n).windows = s.windows := rfl
@[simp] theorem State.closeQueue_drainLimit (s : State) (k : SlotId) (n : Nat) : (s.closeQueue k n).drainLimit = s.drainLimit := rfl
@[simp] theorem State.closeQueue_agents (s : State) (k : SlotId) (n : Nat) : (s.closeQueue k n).agents = s.agents := rfl
@[simp] theorem State.closeQueue_lanes (s : State) (k : SlotId) (n : Nat) : (s.closeQueue k n).lanes = s.lanes := rfl
@[simp] theorem State.closeQueue_pointer (s : State) (k : SlotId) (n : Nat) : (s.closeQueue k n).pointer = s.pointer := rfl
@[simp] theorem State.closeQueue_timebase (s : State) (k : SlotId) (n : Nat) : (s.closeQueue k n).timebase = s.timebase := rfl
@[simp] theorem State.closeQueue_pairA (s : State) (k : SlotId) (n : Nat) : (s.closeQueue k n).pairA = s.pairA := rfl
@[simp] theorem State.closeQueue_pairB (s : State) (k : SlotId) (n : Nat) : (s.closeQueue k n).pairB = s.pairB := rfl
@[simp] theorem State.closeQueue_gates (s : State) (k : SlotId) (n : Nat) : (s.closeQueue k n).gates = s.gates := rfl
@[simp] theorem State.closeQueue_attn (s : State) (k : SlotId) (n : Nat) : (s.closeQueue k n).attn = s.attn := rfl
@[simp] theorem State.closeQueue_port (s : State) (k : SlotId) (n : Nat) : (s.closeQueue k n).port = s.port := rfl
@[simp] theorem State.closeQueue_loader (s : State) (k : SlotId) (n : Nat) : (s.closeQueue k n).loader = s.loader := rfl
@[simp] theorem State.closeQueue_pending (s : State) (k : SlotId) (n : Nat) : (s.closeQueue k n).pending = s.pending := rfl

/-! ### What `State.granted` leaves alone -/

@[simp] theorem State.granted_rstLow (s : State) (q : Requester) : (s.granted q).rstLow = s.rstLow := rfl
@[simp] theorem State.granted_service (s : State) (q : Requester) : (s.granted q).service = s.service := rfl
@[simp] theorem State.granted_imga (s : State) (q : Requester) : (s.granted q).imga = s.imga := rfl
@[simp] theorem State.granted_naks (s : State) (q : Requester) : (s.granted q).naks = s.naks := rfl
@[simp] theorem State.granted_windows (s : State) (q : Requester) : (s.granted q).windows = s.windows := rfl
@[simp] theorem State.granted_drainLimit (s : State) (q : Requester) : (s.granted q).drainLimit = s.drainLimit := rfl
@[simp] theorem State.granted_entries (s : State) (q : Requester) : (s.granted q).entries = s.entries := rfl
@[simp] theorem State.granted_agents (s : State) (q : Requester) : (s.granted q).agents = s.agents := rfl
@[simp] theorem State.granted_lanes (s : State) (q : Requester) : (s.granted q).lanes = s.lanes := rfl
@[simp] theorem State.granted_timebase (s : State) (q : Requester) : (s.granted q).timebase = s.timebase := rfl
@[simp] theorem State.granted_pairA (s : State) (q : Requester) : (s.granted q).pairA = s.pairA := rfl
@[simp] theorem State.granted_pairB (s : State) (q : Requester) : (s.granted q).pairB = s.pairB := rfl
@[simp] theorem State.granted_gates (s : State) (q : Requester) : (s.granted q).gates = s.gates := rfl
@[simp] theorem State.granted_attn (s : State) (q : Requester) : (s.granted q).attn = s.attn := rfl
@[simp] theorem State.granted_port (s : State) (q : Requester) : (s.granted q).port = s.port := rfl
@[simp] theorem State.granted_loader (s : State) (q : Requester) : (s.granted q).loader = s.loader := rfl
@[simp] theorem State.granted_pending (s : State) (q : Requester) : (s.granted q).pending = s.pending := rfl

/-! ### What `State.portGranted` leaves alone -/

@[simp] theorem State.portGranted_rstLow (s : State) : (s.portGranted).rstLow = s.rstLow := rfl
@[simp] theorem State.portGranted_service (s : State) : (s.portGranted).service = s.service := rfl
@[simp] theorem State.portGranted_imga (s : State) : (s.portGranted).imga = s.imga := rfl
@[simp] theorem State.portGranted_naks (s : State) : (s.portGranted).naks = s.naks := rfl
@[simp] theorem State.portGranted_windows (s : State) : (s.portGranted).windows = s.windows := rfl
@[simp] theorem State.portGranted_drainLimit (s : State) : (s.portGranted).drainLimit = s.drainLimit := rfl
@[simp] theorem State.portGranted_entries (s : State) : (s.portGranted).entries = s.entries := rfl
@[simp] theorem State.portGranted_agents (s : State) : (s.portGranted).agents = s.agents := rfl
@[simp] theorem State.portGranted_lanes (s : State) : (s.portGranted).lanes = s.lanes := rfl
@[simp] theorem State.portGranted_timebase (s : State) : (s.portGranted).timebase = s.timebase := rfl
@[simp] theorem State.portGranted_pairA (s : State) : (s.portGranted).pairA = s.pairA := rfl
@[simp] theorem State.portGranted_pairB (s : State) : (s.portGranted).pairB = s.pairB := rfl
@[simp] theorem State.portGranted_gates (s : State) : (s.portGranted).gates = s.gates := rfl
@[simp] theorem State.portGranted_attn (s : State) : (s.portGranted).attn = s.attn := rfl
@[simp] theorem State.portGranted_port (s : State) : (s.portGranted).port = s.port := rfl
@[simp] theorem State.portGranted_loader (s : State) : (s.portGranted).loader = s.loader := rfl
@[simp] theorem State.portGranted_pending (s : State) : (s.portGranted).pending = s.pending := rfl

/-! ### What `State.laneGranted` leaves alone -/

@[simp] theorem State.laneGranted_rstLow (s : State) (l : LaneId) : (s.laneGranted l).rstLow = s.rstLow := rfl
@[simp] theorem State.laneGranted_service (s : State) (l : LaneId) : (s.laneGranted l).service = s.service := rfl
@[simp] theorem State.laneGranted_imga (s : State) (l : LaneId) : (s.laneGranted l).imga = s.imga := rfl
@[simp] theorem State.laneGranted_naks (s : State) (l : LaneId) : (s.laneGranted l).naks = s.naks := rfl
@[simp] theorem State.laneGranted_windows (s : State) (l : LaneId) : (s.laneGranted l).windows = s.windows := rfl
@[simp] theorem State.laneGranted_drainLimit (s : State) (l : LaneId) : (s.laneGranted l).drainLimit = s.drainLimit := rfl
@[simp] theorem State.laneGranted_entries (s : State) (l : LaneId) : (s.laneGranted l).entries = s.entries := rfl
@[simp] theorem State.laneGranted_agents (s : State) (l : LaneId) : (s.laneGranted l).agents = s.agents := rfl
@[simp] theorem State.laneGranted_lanes (s : State) (l : LaneId) : (s.laneGranted l).lanes = s.lanes := rfl
@[simp] theorem State.laneGranted_timebase (s : State) (l : LaneId) : (s.laneGranted l).timebase = s.timebase := rfl
@[simp] theorem State.laneGranted_pairA (s : State) (l : LaneId) : (s.laneGranted l).pairA = s.pairA := rfl
@[simp] theorem State.laneGranted_pairB (s : State) (l : LaneId) : (s.laneGranted l).pairB = s.pairB := rfl
@[simp] theorem State.laneGranted_gates (s : State) (l : LaneId) : (s.laneGranted l).gates = s.gates := rfl
@[simp] theorem State.laneGranted_attn (s : State) (l : LaneId) : (s.laneGranted l).attn = s.attn := rfl
@[simp] theorem State.laneGranted_port (s : State) (l : LaneId) : (s.laneGranted l).port = s.port := rfl
@[simp] theorem State.laneGranted_loader (s : State) (l : LaneId) : (s.laneGranted l).loader = s.loader := rfl
@[simp] theorem State.laneGranted_pending (s : State) (l : LaneId) : (s.laneGranted l).pending = s.pending := rfl

/-! ### What `State.complete` leaves alone -/

@[simp] theorem State.complete_rstLow (s : State) (code : Byte) (r : Reply) : (s.complete code r).rstLow = s.rstLow := rfl
@[simp] theorem State.complete_service (s : State) (code : Byte) (r : Reply) : (s.complete code r).service = s.service := rfl
@[simp] theorem State.complete_imga (s : State) (code : Byte) (r : Reply) : (s.complete code r).imga = s.imga := rfl
@[simp] theorem State.complete_naks (s : State) (code : Byte) (r : Reply) : (s.complete code r).naks = s.naks := rfl
@[simp] theorem State.complete_windows (s : State) (code : Byte) (r : Reply) : (s.complete code r).windows = s.windows := rfl
@[simp] theorem State.complete_drainLimit (s : State) (code : Byte) (r : Reply) : (s.complete code r).drainLimit = s.drainLimit := rfl
@[simp] theorem State.complete_entries (s : State) (code : Byte) (r : Reply) : (s.complete code r).entries = s.entries := rfl
@[simp] theorem State.complete_agents (s : State) (code : Byte) (r : Reply) : (s.complete code r).agents = s.agents := rfl
@[simp] theorem State.complete_lanes (s : State) (code : Byte) (r : Reply) : (s.complete code r).lanes = s.lanes := rfl
@[simp] theorem State.complete_pointer (s : State) (code : Byte) (r : Reply) : (s.complete code r).pointer = s.pointer := rfl
@[simp] theorem State.complete_timebase (s : State) (code : Byte) (r : Reply) : (s.complete code r).timebase = s.timebase := rfl
@[simp] theorem State.complete_pairA (s : State) (code : Byte) (r : Reply) : (s.complete code r).pairA = s.pairA := rfl
@[simp] theorem State.complete_pairB (s : State) (code : Byte) (r : Reply) : (s.complete code r).pairB = s.pairB := rfl
@[simp] theorem State.complete_gates (s : State) (code : Byte) (r : Reply) : (s.complete code r).gates = s.gates := rfl
@[simp] theorem State.complete_attn (s : State) (code : Byte) (r : Reply) : (s.complete code r).attn = s.attn := rfl
@[simp] theorem State.complete_loader (s : State) (code : Byte) (r : Reply) : (s.complete code r).loader = s.loader := rfl
@[simp] theorem State.complete_pending (s : State) (code : Byte) (r : Reply) : (s.complete code r).pending = s.pending := rfl

/-! ### What `State.answered` leaves alone -/

@[simp] theorem State.answered_rstLow (s : State) (code : Byte) (why : Option Reason) (body : List Byte) : (s.answered code why body).rstLow = s.rstLow := rfl
@[simp] theorem State.answered_service (s : State) (code : Byte) (why : Option Reason) (body : List Byte) : (s.answered code why body).service = s.service := rfl
@[simp] theorem State.answered_imga (s : State) (code : Byte) (why : Option Reason) (body : List Byte) : (s.answered code why body).imga = s.imga := rfl
@[simp] theorem State.answered_naks (s : State) (code : Byte) (why : Option Reason) (body : List Byte) : (s.answered code why body).naks = s.naks := rfl
@[simp] theorem State.answered_windows (s : State) (code : Byte) (why : Option Reason) (body : List Byte) : (s.answered code why body).windows = s.windows := rfl
@[simp] theorem State.answered_drainLimit (s : State) (code : Byte) (why : Option Reason) (body : List Byte) : (s.answered code why body).drainLimit = s.drainLimit := rfl
@[simp] theorem State.answered_entries (s : State) (code : Byte) (why : Option Reason) (body : List Byte) : (s.answered code why body).entries = s.entries := rfl
@[simp] theorem State.answered_agents (s : State) (code : Byte) (why : Option Reason) (body : List Byte) : (s.answered code why body).agents = s.agents := rfl
@[simp] theorem State.answered_lanes (s : State) (code : Byte) (why : Option Reason) (body : List Byte) : (s.answered code why body).lanes = s.lanes := rfl
@[simp] theorem State.answered_pointer (s : State) (code : Byte) (why : Option Reason) (body : List Byte) : (s.answered code why body).pointer = s.pointer := rfl
@[simp] theorem State.answered_timebase (s : State) (code : Byte) (why : Option Reason) (body : List Byte) : (s.answered code why body).timebase = s.timebase := rfl
@[simp] theorem State.answered_pairA (s : State) (code : Byte) (why : Option Reason) (body : List Byte) : (s.answered code why body).pairA = s.pairA := rfl
@[simp] theorem State.answered_pairB (s : State) (code : Byte) (why : Option Reason) (body : List Byte) : (s.answered code why body).pairB = s.pairB := rfl
@[simp] theorem State.answered_gates (s : State) (code : Byte) (why : Option Reason) (body : List Byte) : (s.answered code why body).gates = s.gates := rfl
@[simp] theorem State.answered_attn (s : State) (code : Byte) (why : Option Reason) (body : List Byte) : (s.answered code why body).attn = s.attn := rfl
@[simp] theorem State.answered_loader (s : State) (code : Byte) (why : Option Reason) (body : List Byte) : (s.answered code why body).loader = s.loader := rfl
@[simp] theorem State.answered_pending (s : State) (code : Byte) (why : Option Reason) (body : List Byte) : (s.answered code why body).pending = s.pending := rfl

/-! ### What `State.answerLane` leaves alone -/

@[simp] theorem State.answerLane_rstLow (s : State) (l : LaneId) (a : Answer) : (s.answerLane l a).rstLow = s.rstLow := rfl
@[simp] theorem State.answerLane_service (s : State) (l : LaneId) (a : Answer) : (s.answerLane l a).service = s.service := rfl
@[simp] theorem State.answerLane_imga (s : State) (l : LaneId) (a : Answer) : (s.answerLane l a).imga = s.imga := rfl
@[simp] theorem State.answerLane_naks (s : State) (l : LaneId) (a : Answer) : (s.answerLane l a).naks = s.naks := rfl
@[simp] theorem State.answerLane_windows (s : State) (l : LaneId) (a : Answer) : (s.answerLane l a).windows = s.windows := rfl
@[simp] theorem State.answerLane_drainLimit (s : State) (l : LaneId) (a : Answer) : (s.answerLane l a).drainLimit = s.drainLimit := rfl
@[simp] theorem State.answerLane_entries (s : State) (l : LaneId) (a : Answer) : (s.answerLane l a).entries = s.entries := rfl
@[simp] theorem State.answerLane_agents (s : State) (l : LaneId) (a : Answer) : (s.answerLane l a).agents = s.agents := rfl
@[simp] theorem State.answerLane_pointer (s : State) (l : LaneId) (a : Answer) : (s.answerLane l a).pointer = s.pointer := rfl
@[simp] theorem State.answerLane_timebase (s : State) (l : LaneId) (a : Answer) : (s.answerLane l a).timebase = s.timebase := rfl
@[simp] theorem State.answerLane_pairA (s : State) (l : LaneId) (a : Answer) : (s.answerLane l a).pairA = s.pairA := rfl
@[simp] theorem State.answerLane_pairB (s : State) (l : LaneId) (a : Answer) : (s.answerLane l a).pairB = s.pairB := rfl
@[simp] theorem State.answerLane_gates (s : State) (l : LaneId) (a : Answer) : (s.answerLane l a).gates = s.gates := rfl
@[simp] theorem State.answerLane_attn (s : State) (l : LaneId) (a : Answer) : (s.answerLane l a).attn = s.attn := rfl
@[simp] theorem State.answerLane_port (s : State) (l : LaneId) (a : Answer) : (s.answerLane l a).port = s.port := rfl
@[simp] theorem State.answerLane_loader (s : State) (l : LaneId) (a : Answer) : (s.answerLane l a).loader = s.loader := rfl
@[simp] theorem State.answerLane_pending (s : State) (l : LaneId) (a : Answer) : (s.answerLane l a).pending = s.pending := rfl

/-! ### What each update writes -/

@[simp] theorem State.putWindow_windows (s : State) (k : SlotId) (w : Window) :
    (s.putWindow k w).windows = s.windows.set k w := rfl
@[simp] theorem State.putEntry_entries (s : State) (i : EntryId) (e : Entry) :
    (s.putEntry i e).entries = s.entries.set i e := rfl
@[simp] theorem State.putAgent_agents (s : State) (a : AgentId) (r : AgentRecord) :
    (s.putAgent a r).agents = s.agents.set a r := rfl
@[simp] theorem State.putLane_lanes (s : State) (l : LaneId) (x : Lane) :
    (s.putLane l x).lanes = s.lanes.set l x := rfl
@[simp] theorem State.putGate_gates (s : State) (g : GateId) (x : Gate) :
    (s.putGate g x).gates = s.gates.set g x := rfl
@[simp] theorem State.raise_attn (s : State) (c : Cause) : (s.raise c).attn = s.attn.raise c := rfl
@[simp] theorem State.addExpired_attn (s : State) (k : SlotId) : (s.addExpired k).attn = s.attn.addExpired k := rfl
@[simp] theorem State.granted_pointer (s : State) (q : Requester) : (s.granted q).pointer = q + 1 := rfl
@[simp] theorem State.complete_port (s : State) (code : Byte) (r : Reply) :
    (s.complete code r).port = { s.port.place (r.response code) with held := none } := rfl

/-! ### The same through the accessors -/

@[simp] theorem State.putWindow_entry (s : State) (k : SlotId) (w : Window) (j : EntryId) :
    (s.putWindow k w).entry j = s.entry j := rfl
@[simp] theorem State.putWindow_agent (s : State) (k : SlotId) (w : Window) (b : AgentId) :
    (s.putWindow k w).agent b = s.agent b := rfl
@[simp] theorem State.putWindow_lane (s : State) (k : SlotId) (w : Window) (m : LaneId) :
    (s.putWindow k w).lane m = s.lane m := rfl
@[simp] theorem State.modifyWindow_entry (s : State) (k : SlotId) (f : Window → Window) (j : EntryId) :
    (s.modifyWindow k f).entry j = s.entry j := rfl
@[simp] theorem State.modifyWindow_agent (s : State) (k : SlotId) (f : Window → Window) (b : AgentId) :
    (s.modifyWindow k f).agent b = s.agent b := rfl
@[simp] theorem State.modifyWindow_lane (s : State) (k : SlotId) (f : Window → Window) (m : LaneId) :
    (s.modifyWindow k f).lane m = s.lane m := rfl
@[simp] theorem State.putEntry_window (s : State) (i : EntryId) (e : Entry) (k' : SlotId) :
    (s.putEntry i e).window k' = s.window k' := rfl
@[simp] theorem State.putEntry_agent (s : State) (i : EntryId) (e : Entry) (b : AgentId) :
    (s.putEntry i e).agent b = s.agent b := rfl
@[simp] theorem State.putEntry_lane (s : State) (i : EntryId) (e : Entry) (m : LaneId) :
    (s.putEntry i e).lane m = s.lane m := rfl
@[simp] theorem State.putEntry_gate (s : State) (i : EntryId) (e : Entry) (h : GateId) :
    (s.putEntry i e).gate h = s.gate h := rfl
@[simp] theorem State.putAgent_window (s : State) (a : AgentId) (r : AgentRecord) (k' : SlotId) :
    (s.putAgent a r).window k' = s.window k' := rfl
@[simp] theorem State.putAgent_entry (s : State) (a : AgentId) (r : AgentRecord) (j : EntryId) :
    (s.putAgent a r).entry j = s.entry j := rfl
@[simp] theorem State.putAgent_lane (s : State) (a : AgentId) (r : AgentRecord) (m : LaneId) :
    (s.putAgent a r).lane m = s.lane m := rfl
@[simp] theorem State.putAgent_gate (s : State) (a : AgentId) (r : AgentRecord) (h : GateId) :
    (s.putAgent a r).gate h = s.gate h := rfl
@[simp] theorem State.putLane_window (s : State) (l : LaneId) (x : Lane) (k' : SlotId) :
    (s.putLane l x).window k' = s.window k' := rfl
@[simp] theorem State.putLane_entry (s : State) (l : LaneId) (x : Lane) (j : EntryId) :
    (s.putLane l x).entry j = s.entry j := rfl
@[simp] theorem State.putLane_agent (s : State) (l : LaneId) (x : Lane) (b : AgentId) :
    (s.putLane l x).agent b = s.agent b := rfl
@[simp] theorem State.putLane_gate (s : State) (l : LaneId) (x : Lane) (h : GateId) :
    (s.putLane l x).gate h = s.gate h := rfl
@[simp] theorem State.putGate_window (s : State) (g : GateId) (x : Gate) (k' : SlotId) :
    (s.putGate g x).window k' = s.window k' := rfl
@[simp] theorem State.putGate_entry (s : State) (g : GateId) (x : Gate) (j : EntryId) :
    (s.putGate g x).entry j = s.entry j := rfl
@[simp] theorem State.putGate_agent (s : State) (g : GateId) (x : Gate) (b : AgentId) :
    (s.putGate g x).agent b = s.agent b := rfl
@[simp] theorem State.putGate_lane (s : State) (g : GateId) (x : Gate) (m : LaneId) :
    (s.putGate g x).lane m = s.lane m := rfl
@[simp] theorem State.mapEntries_window (s : State) (f : Entry → Entry) (k' : SlotId) :
    (s.mapEntries f).window k' = s.window k' := rfl
@[simp] theorem State.mapEntries_agent (s : State) (f : Entry → Entry) (b : AgentId) :
    (s.mapEntries f).agent b = s.agent b := rfl
@[simp] theorem State.mapEntries_lane (s : State) (f : Entry → Entry) (m : LaneId) :
    (s.mapEntries f).lane m = s.lane m := rfl
@[simp] theorem State.mapEntries_gate (s : State) (f : Entry → Entry) (h : GateId) :
    (s.mapEntries f).gate h = s.gate h := rfl
@[simp] theorem State.raise_window (s : State) (c : Cause) (k' : SlotId) :
    (s.raise c).window k' = s.window k' := rfl
@[simp] theorem State.raise_entry (s : State) (c : Cause) (j : EntryId) :
    (s.raise c).entry j = s.entry j := rfl
@[simp] theorem State.raise_agent (s : State) (c : Cause) (b : AgentId) :
    (s.raise c).agent b = s.agent b := rfl
@[simp] theorem State.raise_lane (s : State) (c : Cause) (m : LaneId) :
    (s.raise c).lane m = s.lane m := rfl
@[simp] theorem State.raise_gate (s : State) (c : Cause) (h : GateId) :
    (s.raise c).gate h = s.gate h := rfl
@[simp] theorem State.addExpired_window (s : State) (k : SlotId) (k' : SlotId) :
    (s.addExpired k).window k' = s.window k' := rfl
@[simp] theorem State.addExpired_entry (s : State) (k : SlotId) (j : EntryId) :
    (s.addExpired k).entry j = s.entry j := rfl
@[simp] theorem State.addExpired_agent (s : State) (k : SlotId) (b : AgentId) :
    (s.addExpired k).agent b = s.agent b := rfl
@[simp] theorem State.addExpired_lane (s : State) (k : SlotId) (m : LaneId) :
    (s.addExpired k).lane m = s.lane m := rfl
@[simp] theorem State.addExpired_gate (s : State) (k : SlotId) (h : GateId) :
    (s.addExpired k).gate h = s.gate h := rfl
@[simp] theorem State.flipToggles_window (s : State) (k : SlotId) (k' : SlotId) :
    (s.flipToggles k).window k' = s.window k' := rfl
@[simp] theorem State.flipToggles_entry (s : State) (k : SlotId) (j : EntryId) :
    (s.flipToggles k).entry j = s.entry j := rfl
@[simp] theorem State.flipToggles_agent (s : State) (k : SlotId) (b : AgentId) :
    (s.flipToggles k).agent b = s.agent b := rfl
@[simp] theorem State.flipToggles_lane (s : State) (k : SlotId) (m : LaneId) :
    (s.flipToggles k).lane m = s.lane m := rfl
@[simp] theorem State.putPair_window (s : State) (p : PulsePair) (x : PairState) (k' : SlotId) :
    (s.putPair p x).window k' = s.window k' := by cases p <;> rfl
@[simp] theorem State.putPair_entry (s : State) (p : PulsePair) (x : PairState) (j : EntryId) :
    (s.putPair p x).entry j = s.entry j := by cases p <;> rfl
@[simp] theorem State.putPair_agent (s : State) (p : PulsePair) (x : PairState) (b : AgentId) :
    (s.putPair p x).agent b = s.agent b := by cases p <;> rfl
@[simp] theorem State.putPair_lane (s : State) (p : PulsePair) (x : PairState) (m : LaneId) :
    (s.putPair p x).lane m = s.lane m := by cases p <;> rfl
@[simp] theorem State.putPair_gate (s : State) (p : PulsePair) (x : PairState) (h : GateId) :
    (s.putPair p x).gate h = s.gate h := by cases p <;> rfl
@[simp] theorem State.incInUse_window (s : State) (a : AgentId) (k' : SlotId) :
    (s.incInUse a).window k' = s.window k' := rfl
@[simp] theorem State.incInUse_entry (s : State) (a : AgentId) (j : EntryId) :
    (s.incInUse a).entry j = s.entry j := rfl
@[simp] theorem State.incInUse_lane (s : State) (a : AgentId) (m : LaneId) :
    (s.incInUse a).lane m = s.lane m := rfl
@[simp] theorem State.incInUse_gate (s : State) (a : AgentId) (h : GateId) :
    (s.incInUse a).gate h = s.gate h := rfl
@[simp] theorem State.decInUse_window (s : State) (a : AgentId) (k' : SlotId) :
    (s.decInUse a).window k' = s.window k' := rfl
@[simp] theorem State.decInUse_entry (s : State) (a : AgentId) (j : EntryId) :
    (s.decInUse a).entry j = s.entry j := rfl
@[simp] theorem State.decInUse_lane (s : State) (a : AgentId) (m : LaneId) :
    (s.decInUse a).lane m = s.lane m := rfl
@[simp] theorem State.decInUse_gate (s : State) (a : AgentId) (h : GateId) :
    (s.decInUse a).gate h = s.gate h := rfl
@[simp] theorem State.closeQueue_window (s : State) (k : SlotId) (n : Nat) (k' : SlotId) :
    (s.closeQueue k n).window k' = s.window k' := rfl
@[simp] theorem State.closeQueue_agent (s : State) (k : SlotId) (n : Nat) (b : AgentId) :
    (s.closeQueue k n).agent b = s.agent b := rfl
@[simp] theorem State.closeQueue_lane (s : State) (k : SlotId) (n : Nat) (m : LaneId) :
    (s.closeQueue k n).lane m = s.lane m := rfl
@[simp] theorem State.closeQueue_gate (s : State) (k : SlotId) (n : Nat) (h : GateId) :
    (s.closeQueue k n).gate h = s.gate h := rfl
@[simp] theorem State.granted_window (s : State) (q : Requester) (k' : SlotId) :
    (s.granted q).window k' = s.window k' := rfl
@[simp] theorem State.granted_entry (s : State) (q : Requester) (j : EntryId) :
    (s.granted q).entry j = s.entry j := rfl
@[simp] theorem State.granted_agent (s : State) (q : Requester) (b : AgentId) :
    (s.granted q).agent b = s.agent b := rfl
@[simp] theorem State.granted_lane (s : State) (q : Requester) (m : LaneId) :
    (s.granted q).lane m = s.lane m := rfl
@[simp] theorem State.granted_gate (s : State) (q : Requester) (h : GateId) :
    (s.granted q).gate h = s.gate h := rfl
@[simp] theorem State.portGranted_window (s : State) (k' : SlotId) :
    (s.portGranted).window k' = s.window k' := rfl
@[simp] theorem State.portGranted_entry (s : State) (j : EntryId) :
    (s.portGranted).entry j = s.entry j := rfl
@[simp] theorem State.portGranted_agent (s : State) (b : AgentId) :
    (s.portGranted).agent b = s.agent b := rfl
@[simp] theorem State.portGranted_lane (s : State) (m : LaneId) :
    (s.portGranted).lane m = s.lane m := rfl
@[simp] theorem State.portGranted_gate (s : State) (h : GateId) :
    (s.portGranted).gate h = s.gate h := rfl
@[simp] theorem State.laneGranted_window (s : State) (l : LaneId) (k' : SlotId) :
    (s.laneGranted l).window k' = s.window k' := rfl
@[simp] theorem State.laneGranted_entry (s : State) (l : LaneId) (j : EntryId) :
    (s.laneGranted l).entry j = s.entry j := rfl
@[simp] theorem State.laneGranted_agent (s : State) (l : LaneId) (b : AgentId) :
    (s.laneGranted l).agent b = s.agent b := rfl
@[simp] theorem State.laneGranted_lane (s : State) (l : LaneId) (m : LaneId) :
    (s.laneGranted l).lane m = s.lane m := rfl
@[simp] theorem State.laneGranted_gate (s : State) (l : LaneId) (h : GateId) :
    (s.laneGranted l).gate h = s.gate h := rfl
@[simp] theorem State.complete_window (s : State) (code : Byte) (r : Reply) (k' : SlotId) :
    (s.complete code r).window k' = s.window k' := rfl
@[simp] theorem State.complete_entry (s : State) (code : Byte) (r : Reply) (j : EntryId) :
    (s.complete code r).entry j = s.entry j := rfl
@[simp] theorem State.complete_agent (s : State) (code : Byte) (r : Reply) (b : AgentId) :
    (s.complete code r).agent b = s.agent b := rfl
@[simp] theorem State.complete_lane (s : State) (code : Byte) (r : Reply) (m : LaneId) :
    (s.complete code r).lane m = s.lane m := rfl
@[simp] theorem State.complete_gate (s : State) (code : Byte) (r : Reply) (h : GateId) :
    (s.complete code r).gate h = s.gate h := rfl
@[simp] theorem State.answered_window (s : State) (code : Byte) (why : Option Reason) (body : List Byte) (k' : SlotId) :
    (s.answered code why body).window k' = s.window k' := rfl
@[simp] theorem State.answered_entry (s : State) (code : Byte) (why : Option Reason) (body : List Byte) (j : EntryId) :
    (s.answered code why body).entry j = s.entry j := rfl
@[simp] theorem State.answered_agent (s : State) (code : Byte) (why : Option Reason) (body : List Byte) (b : AgentId) :
    (s.answered code why body).agent b = s.agent b := rfl
@[simp] theorem State.answered_lane (s : State) (code : Byte) (why : Option Reason) (body : List Byte) (m : LaneId) :
    (s.answered code why body).lane m = s.lane m := rfl
@[simp] theorem State.answered_gate (s : State) (code : Byte) (why : Option Reason) (body : List Byte) (h : GateId) :
    (s.answered code why body).gate h = s.gate h := rfl
@[simp] theorem State.answerLane_window (s : State) (l : LaneId) (a : Answer) (k' : SlotId) :
    (s.answerLane l a).window k' = s.window k' := rfl
@[simp] theorem State.answerLane_entry (s : State) (l : LaneId) (a : Answer) (j : EntryId) :
    (s.answerLane l a).entry j = s.entry j := rfl
@[simp] theorem State.answerLane_agent (s : State) (l : LaneId) (a : Answer) (b : AgentId) :
    (s.answerLane l a).agent b = s.agent b := rfl
@[simp] theorem State.answerLane_gate (s : State) (l : LaneId) (a : Answer) (h : GateId) :
    (s.answerLane l a).gate h = s.gate h := rfl

/-! ### Reading back what was written -/

theorem State.window_putWindow (s : State) (k j : SlotId) (w : Window) :
    (s.putWindow k w).window j = if k = j then w else s.window j := by
  by_cases h : k = j
  · subst h
    simp [State.window]
  · have : k.val ≠ j.val := fun e => h (Fin.ext e)
    simp [State.window, h, Vector.getElem_set_ne _ _ this]

@[simp] theorem State.window_putWindow_self (s : State) (k : SlotId) (w : Window) : (s.putWindow k w).window k = w := by
  simp [State.window_putWindow]

theorem State.window_modifyWindow (s : State) (k j : SlotId) (f : Window → Window) :
    (s.modifyWindow k f).window j = if k = j then f (s.window k) else s.window j :=
  s.window_putWindow k j (f (s.window k))

@[simp] theorem State.window_modifyWindow_self (s : State) (k : SlotId) (f : Window → Window) :
    (s.modifyWindow k f).window k = f (s.window k) := by
  simp [State.window_modifyWindow]

/-- The gates after a window record is written: each has been given the report of the change of state (R24). -/
@[simp] theorem State.gate_putWindow (s : State) (k : SlotId) (w : Window) (g : GateId) :
    (s.putWindow k w).gate g = (s.gate g).report k (s.window k).state w.state :=
  tabulate_get 8 _ g

@[simp] theorem State.gate_modifyWindow (s : State) (k : SlotId) (f : Window → Window) (g : GateId) :
    (s.modifyWindow k f).gate g = (s.gate g).report k (s.window k).state (f (s.window k)).state :=
  tabulate_get 8 _ g

@[simp] theorem State.gate_flipToggles (s : State) (k : SlotId) (g : GateId) :
    (s.flipToggles k).gate g = (s.gate g).flip k :=
  tabulate_get 8 _ g

theorem State.entry_putEntry (s : State) (i j : EntryId) (e : Entry) :
    (s.putEntry i e).entry j = if i = j then e else s.entry j := by
  by_cases h : i = j
  · subst h
    simp [State.entry]
  · have : i.val ≠ j.val := fun e => h (Fin.ext e)
    simp [State.entry, h, Vector.getElem_set_ne _ _ this]

@[simp] theorem State.entry_putEntry_self (s : State) (i : EntryId) (e : Entry) : (s.putEntry i e).entry i = e := by
  simp [State.entry_putEntry]

@[simp] theorem State.entry_mapEntries (s : State) (f : Entry → Entry) (i : EntryId) :
    (s.mapEntries f).entry i = f (s.entry i) :=
  tabulate_get 48 _ i

theorem State.agent_putAgent (s : State) (a b : AgentId) (r : AgentRecord) :
    (s.putAgent a r).agent b = if a = b then r else s.agent b := by
  by_cases h : a = b
  · subst h
    simp [State.agent]
  · have : a.val ≠ b.val := fun e => h (Fin.ext e)
    simp [State.agent, h, Vector.getElem_set_ne _ _ this]

@[simp] theorem State.agent_putAgent_self (s : State) (a : AgentId) (r : AgentRecord) : (s.putAgent a r).agent a = r := by
  simp [State.agent_putAgent]

theorem State.lane_putLane (s : State) (l m : LaneId) (x : Lane) :
    (s.putLane l x).lane m = if l = m then x else s.lane m := by
  by_cases h : l = m
  · subst h
    simp [State.lane]
  · have : l.val ≠ m.val := fun e => h (Fin.ext e)
    simp [State.lane, h, Vector.getElem_set_ne _ _ this]

@[simp] theorem State.lane_putLane_self (s : State) (l : LaneId) (x : Lane) : (s.putLane l x).lane l = x := by
  simp [State.lane_putLane]

theorem State.gate_putGate (s : State) (g h : GateId) (x : Gate) :
    (s.putGate g x).gate h = if g = h then x else s.gate h := by
  by_cases e : g = h
  · subst e
    simp [State.gate]
  · have : g.val ≠ h.val := fun q => e (Fin.ext q)
    simp [State.gate, e, Vector.getElem_set_ne _ _ this]

@[simp] theorem State.gate_putGate_self (s : State) (g : GateId) (x : Gate) : (s.putGate g x).gate g = x := by
  simp [State.gate_putGate]

end Sys2Proof.Machine
end

