-- ==== Sys2Proof/Laws/Ops.lean ====
section
/-! SUPPORT. What each shared operation can do, said once: the taking of a command, of a lane request and of an event, the
writing of several windows, the slots of a unit, and the claims operations' effect on other tables. -/

namespace Sys2Proof.Machine

/-! ### Taking a command, a request, an event -/

/-- A command that is due is taken: its body runs on the granted state and its reply completes it. -/
theorem takeCommand_due {code : Byte} {c : Instr} {body : State → State × Reply} {s : State}
    (h : s.commandDue c = true) :
    takeCommand code c body s
      = .next ((body (s.commandTaken c)).1.complete code (body (s.commandTaken c)).2) := by
  simp [takeCommand, h]

/-- A command that is not due changes nothing. -/
theorem takeCommand_notDue {code : Byte} {c : Instr} {body : State → State × Reply} {s : State}
    (h : s.commandDue c = false) : takeCommand code c body s = .next s := by
  simp [takeCommand, h]

/-- Whatever holds of the state itself and of every completed body holds of the state a command leaves. -/
theorem takeCommand_cases {code : Byte} {c : Instr} {body : State → State × Reply} {s t : State} {P : State → Prop}
    (h : takeCommand code c body s = .next t) (keep : P s)
    (taken : P ((body (s.commandTaken c)).1.complete code (body (s.commandTaken c)).2)) : P t := by
  unfold takeCommand at h
  split at h <;> cases h <;> assumption

/-- A command that goes through the arbiter moves its pointer past the port. -/
theorem State.commandTaken_arbiter {s : State} {c : Instr} (h : c.direct = false) :
    s.commandTaken c = s.portGranted := by
  simp [State.commandTaken, h, State.granted, State.portGranted, portRequester]

/-- A command that goes direct leaves the arbiter alone. -/
theorem State.commandTaken_direct {s : State} {c : Instr} (h : c.direct = true) : s.commandTaken c = s := by
  simp [State.commandTaken, h]

@[simp] theorem State.complete_done (s : State) (code : Byte) (body : List Byte) :
    s.complete code (.done body) = s.answered code none body := rfl

@[simp] theorem State.complete_refused (s : State) (code : Byte) (why : Reason) :
    s.complete code (.refused why) = s.answered code (some why) [] := rfl

/-- A request that is due is taken on the granted state. -/
theorem takeRequest_due {c : Instr} {l : LaneId} {r : Request} {body : State → State} {s : State} (wf : c.wf = true)
    (h : s.requestDue l r = true) : takeRequest c l r body s = .next (body (s.laneGranted l)) := by
  simp [takeRequest, wf, h, State.granted, State.laneGranted, laneRequester]

/-- A request that is not due changes nothing. -/
theorem takeRequest_notDue {c : Instr} {l : LaneId} {r : Request} {body : State → State} {s : State}
    (h : (c.wf && s.requestDue l r) = false) : takeRequest c l r body s = .next s := by
  simp [takeRequest, h]

/-- Whatever holds of the state itself and of the taken body holds of the state a request leaves. -/
theorem takeRequest_cases {c : Instr} {l : LaneId} {r : Request} {body : State → State} {s t : State}
    {P : State → Prop} (h : takeRequest c l r body s = .next t) (keep : P s)
    (taken : s.requestDue l r = true → P (body (s.laneGranted l))) : P t := by
  unfold takeRequest at h
  split at h
  · rename_i due
    have e : s.granted (laneRequester l) = s.laneGranted l := rfl
    rw [e] at h
    cases h
    exact taken (by simp_all)
  · cases h
    exact keep

/-- An event that can occur has its effect. -/
theorem takeEvent_can {can : Bool} {effect s : State} (up : s.rstLow = false) (h : can = true) :
    takeEvent can effect s = .next effect := by
  simp [takeEvent, up, h]

/-- An event that cannot occur changes nothing. -/
theorem takeEvent_cannot {can : Bool} {effect s : State} (h : can = false) : takeEvent can effect s = .next s := by
  simp [takeEvent, h]

/-- No event but the two of RST_N occurs while RST_N is low. -/
theorem takeEvent_low {can : Bool} {effect s : State} (low : s.rstLow = true) : takeEvent can effect s = .next s := by
  simp [takeEvent, low]

/-- Whatever holds of the state itself and of the effect holds of the state an event leaves. -/
theorem takeEvent_cases {can : Bool} {effect s t : State} {P : State → Prop} (h : takeEvent can effect s = .next t)
    (keep : P s) (taken : can = true → P effect) : P t := by
  unfold takeEvent at h
  split at h
  · cases h
    exact taken (by simp_all)
  · cases h
    exact keep

/-! ### Writing several windows -/

@[simp] theorem State.modifyWindows_nil (s : State) (f : Window → Window) : s.modifyWindows [] f = s := rfl

@[simp] theorem State.modifyWindows_cons (s : State) (k : SlotId) (ks : List SlotId) (f : Window → Window) :
    s.modifyWindows (k :: ks) f = (s.modifyWindow k f).modifyWindows ks f := rfl

/-- What modifying one window keeps, modifying a list of them keeps. -/
theorem State.modifyWindows_keeps {P : State → Prop} {f : Window → Window}
    (one : ∀ s k, P s → P (s.modifyWindow k f)) (ks : List SlotId) (s : State) (h : P s) : P (s.modifyWindows ks f) := by
  induction ks generalizing s with
  | nil => exact h
  | cons k ks ih => exact ih _ (one s k h)

/-- A slot that is not in the list keeps its window. -/
theorem State.window_modifyWindows_notMem (s : State) (ks : List SlotId) (f : Window → Window) (j : SlotId)
    (h : j ∉ ks) : (s.modifyWindows ks f).window j = s.window j := by
  induction ks generalizing s with
  | nil => rfl
  | cons k ks ih =>
    simp only [List.mem_cons, not_or] at h
    rw [State.modifyWindows_cons, ih _ h.2, State.window_modifyWindow]
    simp [Ne.symm h.1]

/-- A slot of a list without repeats gets the change once. -/
theorem State.window_modifyWindows_mem (s : State) (ks : List SlotId) (f : Window → Window) (j : SlotId)
    (nodup : ks.Nodup) (h : j ∈ ks) : (s.modifyWindows ks f).window j = f (s.window j) := by
  induction ks generalizing s with
  | nil => cases h
  | cons k ks ih =>
    rw [List.nodup_cons] at nodup
    rw [State.modifyWindows_cons]
    rcases List.mem_cons.mp h with e | m
    · subst e
      rw [State.window_modifyWindows_notMem _ _ _ _ nodup.1, State.window_modifyWindow_self]
    · rw [ih _ nodup.2 m, State.window_modifyWindow]
      have : k ≠ j := fun e => nodup.1 (e ▸ m)
      simp [this]

/-! ### What writing several windows leaves alone -/

@[simp] theorem State.modifyWindows_rstLow (s : State) (ks : List SlotId) (f : Window → Window) :
    (s.modifyWindows ks f).rstLow = s.rstLow :=
  State.modifyWindows_keeps (P := fun t => t.rstLow = s.rstLow) (fun _ _ h => h) ks s rfl

@[simp] theorem State.modifyWindows_service (s : State) (ks : List SlotId) (f : Window → Window) :
    (s.modifyWindows ks f).service = s.service :=
  State.modifyWindows_keeps (P := fun t => t.service = s.service) (fun _ _ h => h) ks s rfl

@[simp] theorem State.modifyWindows_imga (s : State) (ks : List SlotId) (f : Window → Window) :
    (s.modifyWindows ks f).imga = s.imga :=
  State.modifyWindows_keeps (P := fun t => t.imga = s.imga) (fun _ _ h => h) ks s rfl

@[simp] theorem State.modifyWindows_naks (s : State) (ks : List SlotId) (f : Window → Window) :
    (s.modifyWindows ks f).naks = s.naks :=
  State.modifyWindows_keeps (P := fun t => t.naks = s.naks) (fun _ _ h => h) ks s rfl

@[simp] theorem State.modifyWindows_drainLimit (s : State) (ks : List SlotId) (f : Window → Window) :
    (s.modifyWindows ks f).drainLimit = s.drainLimit :=
  State.modifyWindows_keeps (P := fun t => t.drainLimit = s.drainLimit) (fun _ _ h => h) ks s rfl

@[simp] theorem State.modifyWindows_entries (s : State) (ks : List SlotId) (f : Window → Window) :
    (s.modifyWindows ks f).entries = s.entries :=
  State.modifyWindows_keeps (P := fun t => t.entries = s.entries) (fun _ _ h => h) ks s rfl

@[simp] theorem State.modifyWindows_agents (s : State) (ks : List SlotId) (f : Window → Window) :
    (s.modifyWindows ks f).agents = s.agents :=
  State.modifyWindows_keeps (P := fun t => t.agents = s.agents) (fun _ _ h => h) ks s rfl

@[simp] theorem State.modifyWindows_lanes (s : State) (ks : List SlotId) (f : Window → Window) :
    (s.modifyWindows ks f).lanes = s.lanes :=
  State.modifyWindows_keeps (P := fun t => t.lanes = s.lanes) (fun _ _ h => h) ks s rfl

@[simp] theorem State.modifyWindows_pointer (s : State) (ks : List SlotId) (f : Window → Window) :
    (s.modifyWindows ks f).pointer = s.pointer :=
  State.modifyWindows_keeps (P := fun t => t.pointer = s.pointer) (fun _ _ h => h) ks s rfl

@[simp] theorem State.modifyWindows_timebase (s : State) (ks : List SlotId) (f : Window → Window) :
    (s.modifyWindows ks f).timebase = s.timebase :=
  State.modifyWindows_keeps (P := fun t => t.timebase = s.timebase) (fun _ _ h => h) ks s rfl

@[simp] theorem State.modifyWindows_pairA (s : State) (ks : List SlotId) (f : Window → Window) :
    (s.modifyWindows ks f).pairA = s.pairA :=
  State.modifyWindows_keeps (P := fun t => t.pairA = s.pairA) (fun _ _ h => h) ks s rfl

@[simp] theorem State.modifyWindows_pairB (s : State) (ks : List SlotId) (f : Window → Window) :
    (s.modifyWindows ks f).pairB = s.pairB :=
  State.modifyWindows_keeps (P := fun t => t.pairB = s.pairB) (fun _ _ h => h) ks s rfl

@[simp] theorem State.modifyWindows_attn (s : State) (ks : List SlotId) (f : Window → Window) :
    (s.modifyWindows ks f).attn = s.attn :=
  State.modifyWindows_keeps (P := fun t => t.attn = s.attn) (fun _ _ h => h) ks s rfl

@[simp] theorem State.modifyWindows_port (s : State) (ks : List SlotId) (f : Window → Window) :
    (s.modifyWindows ks f).port = s.port :=
  State.modifyWindows_keeps (P := fun t => t.port = s.port) (fun _ _ h => h) ks s rfl

@[simp] theorem State.modifyWindows_loader (s : State) (ks : List SlotId) (f : Window → Window) :
    (s.modifyWindows ks f).loader = s.loader :=
  State.modifyWindows_keeps (P := fun t => t.loader = s.loader) (fun _ _ h => h) ks s rfl

@[simp] theorem State.modifyWindows_pending (s : State) (ks : List SlotId) (f : Window → Window) :
    (s.modifyWindows ks f).pending = s.pending :=
  State.modifyWindows_keeps (P := fun t => t.pending = s.pending) (fun _ _ h => h) ks s rfl

@[simp] theorem State.modifyWindows_entry (s : State) (ks : List SlotId) (f : Window → Window) (i : EntryId) :
    (s.modifyWindows ks f).entry i = s.entry i :=
  State.modifyWindows_keeps (P := fun t => t.entry i = s.entry i) (fun _ _ h => h) ks s rfl

@[simp] theorem State.modifyWindows_agent (s : State) (ks : List SlotId) (f : Window → Window) (a : AgentId) :
    (s.modifyWindows ks f).agent a = s.agent a :=
  State.modifyWindows_keeps (P := fun t => t.agent a = s.agent a) (fun _ _ h => h) ks s rfl

@[simp] theorem State.modifyWindows_lane (s : State) (ks : List SlotId) (f : Window → Window) (l : LaneId) :
    (s.modifyWindows ks f).lane l = s.lane l :=
  State.modifyWindows_keeps (P := fun t => t.lane l = s.lane l) (fun _ _ h => h) ks s rfl

/-! ### The slots of a unit (R80) -/

/-- A window that is no HEAD acts alone. -/
theorem State.unitSlots_single {s : State} {h : SlotId} (e : (s.window h).isHead = false) : s.unitSlots h = [h] := by
  simp [State.unitSlots, e]

/-- The MEMBERs collected from slot `k` upward lie at or above it. -/
theorem State.membersFrom_ge (s : State) (fuel k : Nat) {j : SlotId} (h : j ∈ s.membersFrom fuel k) : k ≤ j.val := by
  induction fuel generalizing k with
  | zero => simp [State.membersFrom] at h
  | succ n ih =>
    unfold State.membersFrom at h
    split at h
    · split at h
      · rcases List.mem_cons.mp h with e | m
        · simp [e]
        · have := ih _ m
          omega
      · cases h
    · cases h

/-- Every collected slot holds a MEMBER. -/
theorem State.membersFrom_isMember (s : State) (fuel k : Nat) {j : SlotId} (h : j ∈ s.membersFrom fuel k) :
    (s.window j).isMember = true := by
  induction fuel generalizing k with
  | zero => simp [State.membersFrom] at h
  | succ n ih =>
    unfold State.membersFrom at h
    split at h
    · split at h
      · rcases List.mem_cons.mp h with e | m
        · subst e
          assumption
        · exact ih _ m
      · cases h
    · cases h

/-- No slot is collected twice. -/
theorem State.membersFrom_nodup (s : State) (fuel k : Nat) : (s.membersFrom fuel k).Nodup := by
  induction fuel generalizing k with
  | zero => simp [State.membersFrom]
  | succ n ih =>
    unfold State.membersFrom
    split
    · split
      · refine List.nodup_cons.mpr ⟨fun m => ?_, ih _⟩
        have := s.membersFrom_ge n (k + 1) m
        simp only [] at this
        omega
      · exact List.nodup_nil
    · exact List.nodup_nil

/-- A unit names each of its slots once. -/
theorem State.unitSlots_nodup (s : State) (h : SlotId) : (s.unitSlots h).Nodup := by
  unfold State.unitSlots
  split
  · refine List.nodup_cons.mpr ⟨fun m => ?_, s.membersFrom_nodup _ _⟩
    have := s.membersFrom_ge _ _ m
    omega
  · simp

/-- A unit contains the slot that names it. -/
theorem State.mem_unitSlots_self (s : State) (h : SlotId) : h ∈ s.unitSlots h := by
  unfold State.unitSlots
  split <;> simp

/-- Every other slot of a unit holds a MEMBER and lies above the slot that names it. -/
theorem State.unitSlots_above {s : State} {h j : SlotId} (m : j ∈ s.unitSlots h) (ne : j ≠ h) :
    (s.window j).isMember = true ∧ h.val < j.val := by
  unfold State.unitSlots at m
  split at m
  · rcases List.mem_cons.mp m with e | m
    · exact absurd e ne
    · exact ⟨s.membersFrom_isMember _ _ m, s.membersFrom_ge _ _ m⟩
  · exact absurd (List.mem_singleton.mp m) ne

/-- The slots of a unit depend on the windows alone. -/
theorem State.membersFrom_congr {s t : State} (e : ∀ k, t.window k = s.window k) (fuel k : Nat) :
    t.membersFrom fuel k = s.membersFrom fuel k := by
  induction fuel generalizing k with
  | zero => rfl
  | succ n ih =>
    unfold State.membersFrom
    simp [e, ih]

theorem State.unitSlots_congr {s t : State} (e : ∀ k, t.window k = s.window k) (h : SlotId) :
    t.unitSlots h = s.unitSlots h := by
  unfold State.unitSlots
  simp [e, State.membersFrom_congr e]

theorem State.ownerFrom_congr {s t : State} (e : ∀ k, t.window k = s.window k) (n : Nat) :
    t.ownerFrom n = s.ownerFrom n := by
  induction n with
  | zero => rfl
  | succ n ih =>
    unfold State.ownerFrom
    simp [e, ih]

/-- The owner of a slot depends on the windows alone. -/
theorem State.owner_congr {s t : State} (e : ∀ k, t.window k = s.window k) (k : SlotId) : t.owner k = s.owner k :=
  State.ownerFrom_congr e k.val

/-- A slot that holds no MEMBER owns itself. -/
theorem State.owner_self {s : State} {k : SlotId} (h : (s.window k).isMember = false) : s.owner k = k := by
  rcases k with ⟨n, hn⟩
  cases n with
  | zero => rfl
  | succ m =>
    have e : (Fin.ofNat 64 (m + 1) : SlotId) = ⟨m + 1, hn⟩ := Fin.ext (Nat.mod_eq_of_lt hn)
    simp only [State.owner, State.ownerFrom, e, h]
    simp

/-! ### Claims operations touch claims, agents and nothing else -/

@[simp] theorem State.makeHeld_rstLow (s : State) (i : EntryId) (a : AgentId) (k : SlotId) (kind : ClaimKind) : (s.makeHeld i a k kind).rstLow = s.rstLow := rfl
@[simp] theorem State.makeHeld_service (s : State) (i : EntryId) (a : AgentId) (k : SlotId) (kind : ClaimKind) : (s.makeHeld i a k kind).service = s.service := rfl
@[simp] theorem State.makeHeld_imga (s : State) (i : EntryId) (a : AgentId) (k : SlotId) (kind : ClaimKind) : (s.makeHeld i a k kind).imga = s.imga := rfl
@[simp] theorem State.makeHeld_naks (s : State) (i : EntryId) (a : AgentId) (k : SlotId) (kind : ClaimKind) : (s.makeHeld i a k kind).naks = s.naks := rfl
@[simp] theorem State.makeHeld_windows (s : State) (i : EntryId) (a : AgentId) (k : SlotId) (kind : ClaimKind) : (s.makeHeld i a k kind).windows = s.windows := rfl
@[simp] theorem State.makeHeld_drainLimit (s : State) (i : EntryId) (a : AgentId) (k : SlotId) (kind : ClaimKind) : (s.makeHeld i a k kind).drainLimit = s.drainLimit := rfl
@[simp] theorem State.makeHeld_lanes (s : State) (i : EntryId) (a : AgentId) (k : SlotId) (kind : ClaimKind) : (s.makeHeld i a k kind).lanes = s.lanes := rfl
@[simp] theorem State.makeHeld_pointer (s : State) (i : EntryId) (a : AgentId) (k : SlotId) (kind : ClaimKind) : (s.makeHeld i a k kind).pointer = s.pointer := rfl
@[simp] theorem State.makeHeld_timebase (s : State) (i : EntryId) (a : AgentId) (k : SlotId) (kind : ClaimKind) : (s.makeHeld i a k kind).timebase = s.timebase := rfl
@[simp] theorem State.makeHeld_pairA (s : State) (i : EntryId) (a : AgentId) (k : SlotId) (kind : ClaimKind) : (s.makeHeld i a k kind).pairA = s.pairA := rfl
@[simp] theorem State.makeHeld_pairB (s : State) (i : EntryId) (a : AgentId) (k : SlotId) (kind : ClaimKind) : (s.makeHeld i a k kind).pairB = s.pairB := rfl
@[simp] theorem State.makeHeld_gates (s : State) (i : EntryId) (a : AgentId) (k : SlotId) (kind : ClaimKind) : (s.makeHeld i a k kind).gates = s.gates := rfl
@[simp] theorem State.makeHeld_attn (s : State) (i : EntryId) (a : AgentId) (k : SlotId) (kind : ClaimKind) : (s.makeHeld i a k kind).attn = s.attn := rfl
@[simp] theorem State.makeHeld_port (s : State) (i : EntryId) (a : AgentId) (k : SlotId) (kind : ClaimKind) : (s.makeHeld i a k kind).port = s.port := rfl
@[simp] theorem State.makeHeld_loader (s : State) (i : EntryId) (a : AgentId) (k : SlotId) (kind : ClaimKind) : (s.makeHeld i a k kind).loader = s.loader := rfl
@[simp] theorem State.makeHeld_pending (s : State) (i : EntryId) (a : AgentId) (k : SlotId) (kind : ClaimKind) : (s.makeHeld i a k kind).pending = s.pending := rfl
@[simp] theorem State.makeHeld_window (s : State) (i : EntryId) (a : AgentId) (k : SlotId) (kind : ClaimKind) (j : SlotId) :
    (s.makeHeld i a k kind).window j = s.window j := rfl

@[simp] theorem State.makeWaiting_rstLow (s : State) (i : EntryId) (a : AgentId) (k : SlotId) (kind : ClaimKind) (wait : Nat) : (s.makeWaiting i a k kind wait).rstLow = s.rstLow := rfl
@[simp] theorem State.makeWaiting_service (s : State) (i : EntryId) (a : AgentId) (k : SlotId) (kind : ClaimKind) (wait : Nat) : (s.makeWaiting i a k kind wait).service = s.service := rfl
@[simp] theorem State.makeWaiting_imga (s : State) (i : EntryId) (a : AgentId) (k : SlotId) (kind : ClaimKind) (wait : Nat) : (s.makeWaiting i a k kind wait).imga = s.imga := rfl
@[simp] theorem State.makeWaiting_naks (s : State) (i : EntryId) (a : AgentId) (k : SlotId) (kind : ClaimKind) (wait : Nat) : (s.makeWaiting i a k kind wait).naks = s.naks := rfl
@[simp] theorem State.makeWaiting_windows (s : State) (i : EntryId) (a : AgentId) (k : SlotId) (kind : ClaimKind) (wait : Nat) : (s.makeWaiting i a k kind wait).windows = s.windows := rfl
@[simp] theorem State.makeWaiting_drainLimit (s : State) (i : EntryId) (a : AgentId) (k : SlotId) (kind : ClaimKind) (wait : Nat) : (s.makeWaiting i a k kind wait).drainLimit = s.drainLimit := rfl
@[simp] theorem State.makeWaiting_lanes (s : State) (i : EntryId) (a : AgentId) (k : SlotId) (kind : ClaimKind) (wait : Nat) : (s.makeWaiting i a k kind wait).lanes = s.lanes := rfl
@[simp] theorem State.makeWaiting_pointer (s : State) (i : EntryId) (a : AgentId) (k : SlotId) (kind : ClaimKind) (wait : Nat) : (s.makeWaiting i a k kind wait).pointer = s.pointer := rfl
@[simp] theorem State.makeWaiting_timebase (s : State) (i : EntryId) (a : AgentId) (k : SlotId) (kind : ClaimKind) (wait : Nat) : (s.makeWaiting i a k kind wait).timebase = s.timebase := rfl
@[simp] theorem State.makeWaiting_pairA (s : State) (i : EntryId) (a : AgentId) (k : SlotId) (kind : ClaimKind) (wait : Nat) : (s.makeWaiting i a k kind wait).pairA = s.pairA := rfl
@[simp] theorem State.makeWaiting_pairB (s : State) (i : EntryId) (a : AgentId) (k : SlotId) (kind : ClaimKind) (wait : Nat) : (s.makeWaiting i a k kind wait).pairB = s.pairB := rfl
@[simp] theorem State.makeWaiting_gates (s : State) (i : EntryId) (a : AgentId) (k : SlotId) (kind : ClaimKind) (wait : Nat) : (s.makeWaiting i a k kind wait).gates = s.gates := rfl
@[simp] theorem State.makeWaiting_attn (s : State) (i : EntryId) (a : AgentId) (k : SlotId) (kind : ClaimKind) (wait : Nat) : (s.makeWaiting i a k kind wait).attn = s.attn := rfl
@[simp] theorem State.makeWaiting_port (s : State) (i : EntryId) (a : AgentId) (k : SlotId) (kind : ClaimKind) (wait : Nat) : (s.makeWaiting i a k kind wait).port = s.port := rfl
@[simp] theorem State.makeWaiting_loader (s : State) (i : EntryId) (a : AgentId) (k : SlotId) (kind : ClaimKind) (wait : Nat) : (s.makeWaiting i a k kind wait).loader = s.loader := rfl
@[simp] theorem State.makeWaiting_pending (s : State) (i : EntryId) (a : AgentId) (k : SlotId) (kind : ClaimKind) (wait : Nat) : (s.makeWaiting i a k kind wait).pending = s.pending := rfl
@[simp] theorem State.makeWaiting_window (s : State) (i : EntryId) (a : AgentId) (k : SlotId) (kind : ClaimKind) (wait : Nat) (j : SlotId) :
    (s.makeWaiting i a k kind wait).window j = s.window j := rfl

@[simp] theorem State.grantEntry_rstLow (s : State) (i : EntryId) : (s.grantEntry i).rstLow = s.rstLow := rfl
@[simp] theorem State.grantEntry_service (s : State) (i : EntryId) : (s.grantEntry i).service = s.service := rfl
@[simp] theorem State.grantEntry_imga (s : State) (i : EntryId) : (s.grantEntry i).imga = s.imga := rfl
@[simp] theorem State.grantEntry_naks (s : State) (i : EntryId) : (s.grantEntry i).naks = s.naks := rfl
@[simp] theorem State.grantEntry_windows (s : State) (i : EntryId) : (s.grantEntry i).windows = s.windows := rfl
@[simp] theorem State.grantEntry_drainLimit (s : State) (i : EntryId) : (s.grantEntry i).drainLimit = s.drainLimit := rfl
@[simp] theorem State.grantEntry_lanes (s : State) (i : EntryId) : (s.grantEntry i).lanes = s.lanes := rfl
@[simp] theorem State.grantEntry_pointer (s : State) (i : EntryId) : (s.grantEntry i).pointer = s.pointer := rfl
@[simp] theorem State.grantEntry_timebase (s : State) (i : EntryId) : (s.grantEntry i).timebase = s.timebase := rfl
@[simp] theorem State.grantEntry_pairA (s : State) (i : EntryId) : (s.grantEntry i).pairA = s.pairA := rfl
@[simp] theorem State.grantEntry_pairB (s : State) (i : EntryId) : (s.grantEntry i).pairB = s.pairB := rfl
@[simp] theorem State.grantEntry_gates (s : State) (i : EntryId) : (s.grantEntry i).gates = s.gates := rfl
@[simp] theorem State.grantEntry_attn (s : State) (i : EntryId) : (s.grantEntry i).attn = s.attn := rfl
@[simp] theorem State.grantEntry_port (s : State) (i : EntryId) : (s.grantEntry i).port = s.port := rfl
@[simp] theorem State.grantEntry_loader (s : State) (i : EntryId) : (s.grantEntry i).loader = s.loader := rfl
@[simp] theorem State.grantEntry_pending (s : State) (i : EntryId) : (s.grantEntry i).pending = s.pending := rfl
@[simp] theorem State.grantEntry_window (s : State) (i : EntryId) (j : SlotId) :
    (s.grantEntry i).window j = s.window j := rfl

@[simp] theorem State.vacate_rstLow (s : State) (i : EntryId) : (s.vacate i).rstLow = s.rstLow := by
  unfold State.vacate; split <;> rfl
@[simp] theorem State.vacate_service (s : State) (i : EntryId) : (s.vacate i).service = s.service := by
  unfold State.vacate; split <;> rfl
@[simp] theorem State.vacate_imga (s : State) (i : EntryId) : (s.vacate i).imga = s.imga := by
  unfold State.vacate; split <;> rfl
@[simp] theorem State.vacate_naks (s : State) (i : EntryId) : (s.vacate i).naks = s.naks := by
  unfold State.vacate; split <;> rfl
@[simp] theorem State.vacate_windows (s : State) (i : EntryId) : (s.vacate i).windows = s.windows := by
  unfold State.vacate; split <;> rfl
@[simp] theorem State.vacate_drainLimit (s : State) (i : EntryId) : (s.vacate i).drainLimit = s.drainLimit := by
  unfold State.vacate; split <;> rfl
@[simp] theorem State.vacate_lanes (s : State) (i : EntryId) : (s.vacate i).lanes = s.lanes := by
  unfold State.vacate; split <;> rfl
@[simp] theorem State.vacate_pointer (s : State) (i : EntryId) : (s.vacate i).pointer = s.pointer := by
  unfold State.vacate; split <;> rfl
@[simp] theorem State.vacate_timebase (s : State) (i : EntryId) : (s.vacate i).timebase = s.timebase := by
  unfold State.vacate; split <;> rfl
@[simp] theorem State.vacate_pairA (s : State) (i : EntryId) : (s.vacate i).pairA = s.pairA := by
  unfold State.vacate; split <;> rfl
@[simp] theorem State.vacate_pairB (s : State) (i : EntryId) : (s.vacate i).pairB = s.pairB := by
  unfold State.vacate; split <;> rfl
@[simp] theorem State.vacate_gates (s : State) (i : EntryId) : (s.vacate i).gates = s.gates := by
  unfold State.vacate; split <;> rfl
@[simp] theorem State.vacate_attn (s : State) (i : EntryId) : (s.vacate i).attn = s.attn := by
  unfold State.vacate; split <;> rfl
@[simp] theorem State.vacate_port (s : State) (i : EntryId) : (s.vacate i).port = s.port := by
  unfold State.vacate; split <;> rfl
@[simp] theorem State.vacate_loader (s : State) (i : EntryId) : (s.vacate i).loader = s.loader := by
  unfold State.vacate; split <;> rfl
@[simp] theorem State.vacate_pending (s : State) (i : EntryId) : (s.vacate i).pending = s.pending := by
  unfold State.vacate; split <;> rfl
@[simp] theorem State.vacate_window (s : State) (i : EntryId) (j : SlotId) :
    (s.vacate i).window j = s.window j := by
  unfold State.vacate; split <;> rfl

@[simp] theorem State.endEntry_rstLow (s : State) (i : EntryId) (o : EOutcome) : (s.endEntry i o).rstLow = s.rstLow := by
  unfold State.endEntry State.vacate; split <;> rfl
@[simp] theorem State.endEntry_service (s : State) (i : EntryId) (o : EOutcome) : (s.endEntry i o).service = s.service := by
  unfold State.endEntry State.vacate; split <;> rfl
@[simp] theorem State.endEntry_imga (s : State) (i : EntryId) (o : EOutcome) : (s.endEntry i o).imga = s.imga := by
  unfold State.endEntry State.vacate; split <;> rfl
@[simp] theorem State.endEntry_naks (s : State) (i : EntryId) (o : EOutcome) : (s.endEntry i o).naks = s.naks := by
  unfold State.endEntry State.vacate; split <;> rfl
@[simp] theorem State.endEntry_windows (s : State) (i : EntryId) (o : EOutcome) : (s.endEntry i o).windows = s.windows := by
  unfold State.endEntry State.vacate; split <;> rfl
@[simp] theorem State.endEntry_drainLimit (s : State) (i : EntryId) (o : EOutcome) : (s.endEntry i o).drainLimit = s.drainLimit := by
  unfold State.endEntry State.vacate; split <;> rfl
@[simp] theorem State.endEntry_lanes (s : State) (i : EntryId) (o : EOutcome) : (s.endEntry i o).lanes = s.lanes := by
  unfold State.endEntry State.vacate; split <;> rfl
@[simp] theorem State.endEntry_pointer (s : State) (i : EntryId) (o : EOutcome) : (s.endEntry i o).pointer = s.pointer := by
  unfold State.endEntry State.vacate; split <;> rfl
@[simp] theorem State.endEntry_timebase (s : State) (i : EntryId) (o : EOutcome) : (s.endEntry i o).timebase = s.timebase := by
  unfold State.endEntry State.vacate; split <;> rfl
@[simp] theorem State.endEntry_pairA (s : State) (i : EntryId) (o : EOutcome) : (s.endEntry i o).pairA = s.pairA := by
  unfold State.endEntry State.vacate; split <;> rfl
@[simp] theorem State.endEntry_pairB (s : State) (i : EntryId) (o : EOutcome) : (s.endEntry i o).pairB = s.pairB := by
  unfold State.endEntry State.vacate; split <;> rfl
@[simp] theorem State.endEntry_gates (s : State) (i : EntryId) (o : EOutcome) : (s.endEntry i o).gates = s.gates := by
  unfold State.endEntry State.vacate; split <;> rfl
@[simp] theorem State.endEntry_attn (s : State) (i : EntryId) (o : EOutcome) : (s.endEntry i o).attn = s.attn := by
  unfold State.endEntry State.vacate; split <;> rfl
@[simp] theorem State.endEntry_port (s : State) (i : EntryId) (o : EOutcome) : (s.endEntry i o).port = s.port := by
  unfold State.endEntry State.vacate; split <;> rfl
@[simp] theorem State.endEntry_loader (s : State) (i : EntryId) (o : EOutcome) : (s.endEntry i o).loader = s.loader := by
  unfold State.endEntry State.vacate; split <;> rfl
@[simp] theorem State.endEntry_pending (s : State) (i : EntryId) (o : EOutcome) : (s.endEntry i o).pending = s.pending := by
  unfold State.endEntry State.vacate; split <;> rfl
@[simp] theorem State.endEntry_window (s : State) (i : EntryId) (o : EOutcome) (j : SlotId) :
    (s.endEntry i o).window j = s.window j := by
  unfold State.endEntry State.vacate; split <;> rfl

@[simp] theorem State.freeEntry_rstLow (s : State) (i : EntryId) : (s.freeEntry i).rstLow = s.rstLow := by
  unfold State.freeEntry State.vacate; split <;> [split; skip] <;> rfl
@[simp] theorem State.freeEntry_service (s : State) (i : EntryId) : (s.freeEntry i).service = s.service := by
  unfold State.freeEntry State.vacate; split <;> [split; skip] <;> rfl
@[simp] theorem State.freeEntry_imga (s : State) (i : EntryId) : (s.freeEntry i).imga = s.imga := by
  unfold State.freeEntry State.vacate; split <;> [split; skip] <;> rfl
@[simp] theorem State.freeEntry_naks (s : State) (i : EntryId) : (s.freeEntry i).naks = s.naks := by
  unfold State.freeEntry State.vacate; split <;> [split; skip] <;> rfl
@[simp] theorem State.freeEntry_windows (s : State) (i : EntryId) : (s.freeEntry i).windows = s.windows := by
  unfold State.freeEntry State.vacate; split <;> [split; skip] <;> rfl
@[simp] theorem State.freeEntry_drainLimit (s : State) (i : EntryId) : (s.freeEntry i).drainLimit = s.drainLimit := by
  unfold State.freeEntry State.vacate; split <;> [split; skip] <;> rfl
@[simp] theorem State.freeEntry_lanes (s : State) (i : EntryId) : (s.freeEntry i).lanes = s.lanes := by
  unfold State.freeEntry State.vacate; split <;> [split; skip] <;> rfl
@[simp] theorem State.freeEntry_pointer (s : State) (i : EntryId) : (s.freeEntry i).pointer = s.pointer := by
  unfold State.freeEntry State.vacate; split <;> [split; skip] <;> rfl
@[simp] theorem State.freeEntry_timebase (s : State) (i : EntryId) : (s.freeEntry i).timebase = s.timebase := by
  unfold State.freeEntry State.vacate; split <;> [split; skip] <;> rfl
@[simp] theorem State.freeEntry_pairA (s : State) (i : EntryId) : (s.freeEntry i).pairA = s.pairA := by
  unfold State.freeEntry State.vacate; split <;> [split; skip] <;> rfl
@[simp] theorem State.freeEntry_pairB (s : State) (i : EntryId) : (s.freeEntry i).pairB = s.pairB := by
  unfold State.freeEntry State.vacate; split <;> [split; skip] <;> rfl
@[simp] theorem State.freeEntry_gates (s : State) (i : EntryId) : (s.freeEntry i).gates = s.gates := by
  unfold State.freeEntry State.vacate; split <;> [split; skip] <;> rfl
@[simp] theorem State.freeEntry_attn (s : State) (i : EntryId) : (s.freeEntry i).attn = s.attn := by
  unfold State.freeEntry State.vacate; split <;> [split; skip] <;> rfl
@[simp] theorem State.freeEntry_port (s : State) (i : EntryId) : (s.freeEntry i).port = s.port := by
  unfold State.freeEntry State.vacate; split <;> [split; skip] <;> rfl
@[simp] theorem State.freeEntry_loader (s : State) (i : EntryId) : (s.freeEntry i).loader = s.loader := by
  unfold State.freeEntry State.vacate; split <;> [split; skip] <;> rfl
@[simp] theorem State.freeEntry_pending (s : State) (i : EntryId) : (s.freeEntry i).pending = s.pending := by
  unfold State.freeEntry State.vacate; split <;> [split; skip] <;> rfl
@[simp] theorem State.freeEntry_window (s : State) (i : EntryId) (j : SlotId) :
    (s.freeEntry i).window j = s.window j := by
  unfold State.freeEntry State.vacate; split <;> [split; skip] <;> rfl

/-- What ending one entry keeps, ending every entry that passes a test keeps. -/
theorem State.endWhere_keeps {P : State → Prop} {o : EOutcome} (one : ∀ s i, P s → P (s.endEntry i o))
    (p : Entry → Bool) (s : State) (h : P s) : P (s.endWhere p o) := by
  unfold State.endWhere
  generalize List.finRange 48 = is
  induction is generalizing s with
  | nil => exact h
  | cons i is ih =>
    rw [List.foldl_cons]
    apply ih
    split
    · exact one s i h
    · exact h

@[simp] theorem State.endWhere_rstLow (s : State) (p : Entry → Bool) (o : EOutcome) : (s.endWhere p o).rstLow = s.rstLow :=
  State.endWhere_keeps (P := fun t => t.rstLow = s.rstLow) (fun t i h => (t.endEntry_rstLow i o).trans h) p s rfl
@[simp] theorem State.endWhere_service (s : State) (p : Entry → Bool) (o : EOutcome) : (s.endWhere p o).service = s.service :=
  State.endWhere_keeps (P := fun t => t.service = s.service) (fun t i h => (t.endEntry_service i o).trans h) p s rfl
@[simp] theorem State.endWhere_imga (s : State) (p : Entry → Bool) (o : EOutcome) : (s.endWhere p o).imga = s.imga :=
  State.endWhere_keeps (P := fun t => t.imga = s.imga) (fun t i h => (t.endEntry_imga i o).trans h) p s rfl
@[simp] theorem State.endWhere_naks (s : State) (p : Entry → Bool) (o : EOutcome) : (s.endWhere p o).naks = s.naks :=
  State.endWhere_keeps (P := fun t => t.naks = s.naks) (fun t i h => (t.endEntry_naks i o).trans h) p s rfl
@[simp] theorem State.endWhere_windows (s : State) (p : Entry → Bool) (o : EOutcome) : (s.endWhere p o).windows = s.windows :=
  State.endWhere_keeps (P := fun t => t.windows = s.windows) (fun t i h => (t.endEntry_windows i o).trans h) p s rfl
@[simp] theorem State.endWhere_drainLimit (s : State) (p : Entry → Bool) (o : EOutcome) : (s.endWhere p o).drainLimit = s.drainLimit :=
  State.endWhere_keeps (P := fun t => t.drainLimit = s.drainLimit) (fun t i h => (t.endEntry_drainLimit i o).trans h) p s rfl
@[simp] theorem State.endWhere_lanes (s : State) (p : Entry → Bool) (o : EOutcome) : (s.endWhere p o).lanes = s.lanes :=
  State.endWhere_keeps (P := fun t => t.lanes = s.lanes) (fun t i h => (t.endEntry_lanes i o).trans h) p s rfl
@[simp] theorem State.endWhere_pointer (s : State) (p : Entry → Bool) (o : EOutcome) : (s.endWhere p o).pointer = s.pointer :=
  State.endWhere_keeps (P := fun t => t.pointer = s.pointer) (fun t i h => (t.endEntry_pointer i o).trans h) p s rfl
@[simp] theorem State.endWhere_timebase (s : State) (p : Entry → Bool) (o : EOutcome) : (s.endWhere p o).timebase = s.timebase :=
  State.endWhere_keeps (P := fun t => t.timebase = s.timebase) (fun t i h => (t.endEntry_timebase i o).trans h) p s rfl
@[simp] theorem State.endWhere_pairA (s : State) (p : Entry → Bool) (o : EOutcome) : (s.endWhere p o).pairA = s.pairA :=
  State.endWhere_keeps (P := fun t => t.pairA = s.pairA) (fun t i h => (t.endEntry_pairA i o).trans h) p s rfl
@[simp] theorem State.endWhere_pairB (s : State) (p : Entry → Bool) (o : EOutcome) : (s.endWhere p o).pairB = s.pairB :=
  State.endWhere_keeps (P := fun t => t.pairB = s.pairB) (fun t i h => (t.endEntry_pairB i o).trans h) p s rfl
@[simp] theorem State.endWhere_gates (s : State) (p : Entry → Bool) (o : EOutcome) : (s.endWhere p o).gates = s.gates :=
  State.endWhere_keeps (P := fun t => t.gates = s.gates) (fun t i h => (t.endEntry_gates i o).trans h) p s rfl
@[simp] theorem State.endWhere_attn (s : State) (p : Entry → Bool) (o : EOutcome) : (s.endWhere p o).attn = s.attn :=
  State.endWhere_keeps (P := fun t => t.attn = s.attn) (fun t i h => (t.endEntry_attn i o).trans h) p s rfl
@[simp] theorem State.endWhere_port (s : State) (p : Entry → Bool) (o : EOutcome) : (s.endWhere p o).port = s.port :=
  State.endWhere_keeps (P := fun t => t.port = s.port) (fun t i h => (t.endEntry_port i o).trans h) p s rfl
@[simp] theorem State.endWhere_loader (s : State) (p : Entry → Bool) (o : EOutcome) : (s.endWhere p o).loader = s.loader :=
  State.endWhere_keeps (P := fun t => t.loader = s.loader) (fun t i h => (t.endEntry_loader i o).trans h) p s rfl
@[simp] theorem State.endWhere_pending (s : State) (p : Entry → Bool) (o : EOutcome) : (s.endWhere p o).pending = s.pending :=
  State.endWhere_keeps (P := fun t => t.pending = s.pending) (fun t i h => (t.endEntry_pending i o).trans h) p s rfl
@[simp] theorem State.endWhere_window (s : State) (p : Entry → Bool) (o : EOutcome) (j : SlotId) :
    (s.endWhere p o).window j = s.window j := by
  simp [State.window]

/-- What granting one entry keeps, a grant pass keeps. -/
theorem State.passLoop_keeps {P : State → Prop} (k : SlotId) (one : ∀ s i, P s → P (s.grantEntry i)) (fuel : Nat)
    (s : State) (h : P s) : P (State.passLoop k fuel s) := by
  induction fuel generalizing s with
  | zero => exact h
  | succ n ih =>
    unfold State.passLoop
    split
    · exact h
    · split
      · split
        · exact one _ _ h
        · exact h
      · split
        · exact ih _ (one _ _ h)
        · exact h

theorem State.grantPass_keeps {P : State → Prop} (k : SlotId) (one : ∀ s i, P s → P (s.grantEntry i)) (s : State)
    (h : P s) : P (s.grantPass k) := by
  unfold State.grantPass
  split
  · exact State.passLoop_keeps k one 48 s h
  · exact h

@[simp] theorem State.grantPass_rstLow (s : State) (k : SlotId) : (s.grantPass k).rstLow = s.rstLow :=
  State.grantPass_keeps (P := fun t => t.rstLow = s.rstLow) k (fun t i h => (t.grantEntry_rstLow i).trans h) s rfl
@[simp] theorem State.grantPass_service (s : State) (k : SlotId) : (s.grantPass k).service = s.service :=
  State.grantPass_keeps (P := fun t => t.service = s.service) k (fun t i h => (t.grantEntry_service i).trans h) s rfl
@[simp] theorem State.grantPass_imga (s : State) (k : SlotId) : (s.grantPass k).imga = s.imga :=
  State.grantPass_keeps (P := fun t => t.imga = s.imga) k (fun t i h => (t.grantEntry_imga i).trans h) s rfl
@[simp] theorem State.grantPass_naks (s : State) (k : SlotId) : (s.grantPass k).naks = s.naks :=
  State.grantPass_keeps (P := fun t => t.naks = s.naks) k (fun t i h => (t.grantEntry_naks i).trans h) s rfl
@[simp] theorem State.grantPass_windows (s : State) (k : SlotId) : (s.grantPass k).windows = s.windows :=
  State.grantPass_keeps (P := fun t => t.windows = s.windows) k (fun t i h => (t.grantEntry_windows i).trans h) s rfl
@[simp] theorem State.grantPass_drainLimit (s : State) (k : SlotId) : (s.grantPass k).drainLimit = s.drainLimit :=
  State.grantPass_keeps (P := fun t => t.drainLimit = s.drainLimit) k (fun t i h => (t.grantEntry_drainLimit i).trans h) s rfl
@[simp] theorem State.grantPass_lanes (s : State) (k : SlotId) : (s.grantPass k).lanes = s.lanes :=
  State.grantPass_keeps (P := fun t => t.lanes = s.lanes) k (fun t i h => (t.grantEntry_lanes i).trans h) s rfl
@[simp] theorem State.grantPass_pointer (s : State) (k : SlotId) : (s.grantPass k).pointer = s.pointer :=
  State.grantPass_keeps (P := fun t => t.pointer = s.pointer) k (fun t i h => (t.grantEntry_pointer i).trans h) s rfl
@[simp] theorem State.grantPass_timebase (s : State) (k : SlotId) : (s.grantPass k).timebase = s.timebase :=
  State.grantPass_keeps (P := fun t => t.timebase = s.timebase) k (fun t i h => (t.grantEntry_timebase i).trans h) s rfl
@[simp] theorem State.grantPass_pairA (s : State) (k : SlotId) : (s.grantPass k).pairA = s.pairA :=
  State.grantPass_keeps (P := fun t => t.pairA = s.pairA) k (fun t i h => (t.grantEntry_pairA i).trans h) s rfl
@[simp] theorem State.grantPass_pairB (s : State) (k : SlotId) : (s.grantPass k).pairB = s.pairB :=
  State.grantPass_keeps (P := fun t => t.pairB = s.pairB) k (fun t i h => (t.grantEntry_pairB i).trans h) s rfl
@[simp] theorem State.grantPass_gates (s : State) (k : SlotId) : (s.grantPass k).gates = s.gates :=
  State.grantPass_keeps (P := fun t => t.gates = s.gates) k (fun t i h => (t.grantEntry_gates i).trans h) s rfl
@[simp] theorem State.grantPass_attn (s : State) (k : SlotId) : (s.grantPass k).attn = s.attn :=
  State.grantPass_keeps (P := fun t => t.attn = s.attn) k (fun t i h => (t.grantEntry_attn i).trans h) s rfl
@[simp] theorem State.grantPass_port (s : State) (k : SlotId) : (s.grantPass k).port = s.port :=
  State.grantPass_keeps (P := fun t => t.port = s.port) k (fun t i h => (t.grantEntry_port i).trans h) s rfl
@[simp] theorem State.grantPass_loader (s : State) (k : SlotId) : (s.grantPass k).loader = s.loader :=
  State.grantPass_keeps (P := fun t => t.loader = s.loader) k (fun t i h => (t.grantEntry_loader i).trans h) s rfl
@[simp] theorem State.grantPass_pending (s : State) (k : SlotId) : (s.grantPass k).pending = s.pending :=
  State.grantPass_keeps (P := fun t => t.pending = s.pending) k (fun t i h => (t.grantEntry_pending i).trans h) s rfl
@[simp] theorem State.grantPass_agents (s : State) (k : SlotId) : (s.grantPass k).agents = s.agents :=
  State.grantPass_keeps (P := fun t => t.agents = s.agents) k (fun _ _ h => h) s rfl
@[simp] theorem State.grantPass_window (s : State) (k j : SlotId) : (s.grantPass k).window j = s.window j := by
  simp [State.window]

/-- A grant pass on a window with an empty queue grants nothing (R103). -/
theorem State.grantPass_empty {s : State} {k : SlotId} (h : s.queueHead k = none) : s.grantPass k = s := by
  unfold State.grantPass
  split
  · simp [State.passLoop, h]
  · rfl

/-! ### Numbers that name a record -/

theorem slotOf_val {b : Byte} {k : SlotId} (h : slotOf b = some k) : k.val = b.toNat := by
  unfold slotOf at h
  split at h
  · cases h
    rfl
  · cases h

/-- A slot byte that names a slot is that slot's number. -/
theorem slotOf_byte {b : Byte} {k : SlotId} (h : slotOf b = some k) : BitVec.ofNat 8 k.val = b := by
  rw [slotOf_val h]
  simp

theorem slotOf_ofNat (k : SlotId) : slotOf (BitVec.ofNat 8 k.val) = some k := by
  have e : k.val % 256 = k.val := Nat.mod_eq_of_lt (by omega)
  simp [slotOf, e]

/-- A command that names a slot of the part acts on it. -/
theorem State.withSlot_some {s : State} {b : Byte} {k : SlotId} {f : SlotId → State × Reply} (h : slotOf b = some k) :
    s.withSlot b f = f k := by
  simp [State.withSlot, h]

/-- A command that names no slot of the part is refused with BAD_SLOT. -/
theorem State.withSlot_none {s : State} {b : Byte} {f : SlotId → State × Reply} (h : slotOf b = none) :
    s.withSlot b f = (s, .refused .badSlot) := by
  simp [State.withSlot, h, State.refuse]

end Sys2Proof.Machine
end

