-- ==== Sys2Proof/Laws/Ticks.lean ====
section
/-! SUPPORT. Which event an expiry row is: the lookup in turn, or the tick handed over. -/

namespace Sys2Proof.Machine

/-- The lookup that is due is the one in turn. -/
theorem State.lookupInTurn_due {s : State} {l : LaneId} {r : Request} {write : Bool} (due : s.requestDue l r = true)
    (kind : r.kind = if write then 2 else 1) :
    s.lookupInTurn = some (l, r, if write then .write else .read) := by
  simp only [State.requestDue, Bool.and_eq_true, beq_iff_eq] at due
  obtain ⟨⟨⟨_, _⟩, held⟩, turn⟩ := due
  have first : ((List.finRange 4).find? fun j => s.arbiterChoice == some (laneRequester j)) = some l := by
    have only : (fun j : LaneId => s.arbiterChoice == some (laneRequester j)) = fun j => decide (j = l) := by
      funext j
      rw [turn]
      fin_cases j <;> fin_cases l <;> rfl
    rw [only]
    fin_cases l <;> rfl
  rw [State.lookupInTurn, first]
  cases write <;> simp [held, kind]

/-- LEASE_EXPIRY of a TIMED lease is a tick or nothing. -/
theorem execLeaseExpiry_timed {s : State} {k : SlotId} (timed : (s.window k).leaseMode = .timed) :
    execLeaseExpiry k s
      = takeEvent (decide (0 < s.timebase.windowTicks) && s.leaseExpiresAtTick k) s.windowTick s := by
  have none : s.lookupInTurn.filter (fun (l, r, access) => s.isLastUse k l r access) = none := by
    rw [Option.filter_eq_none_iff]
    rintro ⟨l, r, access⟩ _
    simp only [State.isLastUse]
    split <;> simp [timed]
  rw [execLeaseExpiry, none]

/-- LEASE_EXPIRY is the lookup in turn when that takes the last use of this lease. -/
theorem execLeaseExpiry_lookup {s : State} {k : SlotId} {l : LaneId} {r : Request} {access : ClaimKind}
    (turn : s.lookupInTurn = some (l, r, access)) (last : s.isLastUse k l r access = true) :
    execLeaseExpiry k s = takeEvent true ((s.granted (laneRequester l)).lookup l r access) s := by
  have here : s.lookupInTurn.filter (fun (l, r, access) => s.isLastUse k l r access) = some (l, r, access) := by
    rw [turn]; simp [Option.filter, last]
  rw [execLeaseExpiry, here]

/-- A count that the tick takes to 0 stood at 1 or 0. -/
theorem Entry.holdOut_countDown {e : Entry} :
    e.countDown.holdOut = true ↔ e.state = .held ∧ ∃ c, e.countdown = some c ∧ c ≤ 1 := by
  cases h : e.state <;> cases hc : e.countdown <;>
    (simp [Entry.countDown, Entry.holdOut, Entry.live, h, hc]; try omega)

theorem Entry.waitOut_countDown {e : Entry} :
    e.countDown.waitOut = true ↔ e.state = .waiting ∧ ∃ c, e.countdown = some c ∧ c ≤ 1 := by
  cases h : e.state <;> cases hc : e.countdown <;>
    (simp [Entry.countDown, Entry.waitOut, Entry.live, h, hc]; try omega)

end Sys2Proof.Machine
end

