-- ==== Sys2Proof/Laws/Wire.lean ====
section
/-! SUPPORT. What the serial formats do: the bits of bytes read back as those bytes, and the loader's part in a load that
fails. -/

namespace Sys2Proof.Machine

/-! ### Frames (R154) -/

/-- A byte is read back from its bits, whatever follows them. -/
@[simp] theorem byteOfBits_byteBits (b : Byte) : byteOfBits (byteBits b) = b := by
  revert b; decide

@[simp] theorem byteBits_length (b : Byte) : (byteBits b).length = 8 := by simp [byteBits]

/-- The bits of bytes are eight to a byte. -/
@[simp] theorem flatMap_byteBits_length (bytes : List Byte) : (bytes.flatMap byteBits).length = 8 * bytes.length := by
  induction bytes with
  | nil => rfl
  | cons b rest ih => simp [ih]; omega

theorem bytesOfBits_flatMap (bytes : List Byte) (more : List Bool) :
    bytesOfBits bytes.length (bytes.flatMap byteBits ++ more) = bytes := by
  induction bytes with
  | nil => rfl
  | cons b rest ih =>
    have head : ((b :: rest).flatMap byteBits ++ more).take 8 = byteBits b := by simp [List.append_assoc]
    have tail : ((b :: rest).flatMap byteBits ++ more).drop 8 = rest.flatMap byteBits ++ more := by
      simp [List.append_assoc]
    rw [List.length_cons, bytesOfBits, head, tail, byteOfBits_byteBits, ih]

/-- The complete bytes of a frame: its bits in whole bytes and fewer than eight more. -/
theorem frameBytes_flatMap {bytes : List Byte} {extra : List Bool} (h : extra.length < 8) :
    frameBytes (bytes.flatMap byteBits ++ extra) = bytes := by
  have n : (bytes.flatMap byteBits ++ extra).length / 8 = bytes.length := by
    rw [List.length_append, flatMap_byteBits_length]; omega
  rw [frameBytes, n, bytesOfBits_flatMap]

/-! ### The request bus (R136) -/

/-- Ln_RQT answers a word offered to an IDLE lane, and nothing else. -/
theorem State.requestTakenHigh_iff (s : State) (l : LaneId) (offered : Bool) :
    s.requestTakenHigh l offered = true ↔ s.rstLow = false ∧ offered = true ∧ (s.lane l).state = .idle := by
  simp [State.requestTakenHigh, Lane.takesWords, and_assoc]

/-! ### The load (R164 to R170) -/

@[simp] theorem Loader.fail_phase (l : Loader) (f : LoadFault) (bus : List BusEvent) :
    (l.fail f bus).phase = .failing f := rfl
@[simp] theorem Loader.fail_started (l : Loader) (f : LoadFault) (bus : List BusEvent) :
    (l.fail f bus).started = l.started := rfl
@[simp] theorem Loader.fail_bus (l : Loader) (f : LoadFault) (bus : List BusEvent) : (l.fail f bus).bus = bus := rfl
@[simp] theorem Loader.fail_result (l : Loader) (f : LoadFault) (bus : List BusEvent) :
    (l.fail f bus).result = l.result := rfl
@[simp] theorem Loader.fail_settings (l : Loader) (f : LoadFault) (bus : List BusEvent) :
    (l.fail f bus).settings = l.settings := rfl
@[simp] theorem Loader.failReleased_phase (l : Loader) (f : LoadFault) (bus : List BusEvent) :
    (l.failReleased f bus).phase = .failing f := rfl
@[simp] theorem Loader.failReleased_started (l : Loader) (f : LoadFault) (bus : List BusEvent) :
    (l.failReleased f bus).started = false := rfl
@[simp] theorem Loader.failReleased_bus (l : Loader) (f : LoadFault) (bus : List BusEvent) :
    (l.failReleased f bus).bus = bus ++ [.release] := rfl
@[simp] theorem Loader.failReleased_result (l : Loader) (f : LoadFault) (bus : List BusEvent) :
    (l.failReleased f bus).result = l.result := rfl
@[simp] theorem Loader.failReleased_settings (l : Loader) (f : LoadFault) (bus : List BusEvent) :
    (l.failReleased f bus).settings = l.settings := rfl

@[simp] theorem Loader.endAttempt_phase (l : Loader) (sent : List BusEvent) : (l.endAttempt sent).phase = .busCheck := rfl
@[simp] theorem Loader.endAttempt_started (l : Loader) (sent : List BusEvent) : (l.endAttempt sent).started = false := rfl
@[simp] theorem Loader.endAttempt_bus (l : Loader) (sent : List BusEvent) : (l.endAttempt sent).bus = sent ++ [.stop] := rfl
@[simp] theorem Loader.endAttempt_result (l : Loader) (sent : List BusEvent) : (l.endAttempt sent).result = l.result := rfl
@[simp] theorem Loader.endAttempt_settings (l : Loader) (sent : List BusEvent) :
    (l.endAttempt sent).settings = l.settings := rfl

/-- A NAK changes the loader and the number of the next free value (R164; assumption 18). -/
@[simp] theorem State.nakTaken_loader (s : State) (l : Loader) : (s.nakTaken l).loader = l := rfl
@[simp] theorem State.nakTaken_naks (s : State) (l : Loader) : (s.nakTaken l).naks = s.naks + 1 := rfl
@[simp] theorem State.nakTaken_service (s : State) (l : Loader) : (s.nakTaken l).service = s.service := rfl
@[simp] theorem State.nakTaken_rstLow (s : State) (l : Loader) : (s.nakTaken l).rstLow = s.rstLow := rfl
@[simp] theorem State.nakTaken_pending (s : State) (l : Loader) : (s.nakTaken l).pending = s.pending := rfl
theorem State.nakTaken_keeps (s : State) (l : Loader) :
    s.nakTaken l = { s with loader := (s.nakTaken l).loader, naks := (s.nakTaken l).naks } := rfl

/-- An address byte that draws a NAK is the one of step 2, or the one of step 4 after the offset bytes (R164). -/
theorem State.sentToAddressNak_cases (s : State) :
    s.sentToAddressNak = [] ∨ s.sentToAddressNak = offsetAndReadAddress s.imga := by
  unfold State.sentToAddressNak; split <;> simp

/-- An offset byte that draws a NAK is the high one, or the low one after it (R164). -/
theorem State.sentToOffsetNak_cases (s : State) :
    s.sentToOffsetNak = [.send 0] ∨ s.sentToOffsetNak = [.send 0, .send 0] := by
  unfold State.sentToOffsetNak; split <;> simp

/-- A completed part takes the load to its next phase, or to the ABORTED end when one was asked for (R170). -/
theorem Loader.proceed_phase (l : Loader) (p : LoadPhase) (before : List BusEvent) (bytes : List Byte) :
    (l.proceed p before bytes).phase = if l.abortAsked then .failing (.plain .aborted) else p := by
  unfold Loader.proceed; split <;> simp_all

@[simp] theorem Loader.proceed_started (l : Loader) (p : LoadPhase) (before : List BusEvent) (bytes : List Byte) :
    (l.proceed p before bytes).started = l.started := by
  unfold Loader.proceed; split <;> rfl

@[simp] theorem Loader.proceed_result (l : Loader) (p : LoadPhase) (before : List BusEvent) (bytes : List Byte) :
    (l.proceed p before bytes).result = l.result := by
  unfold Loader.proceed; split <;> rfl

@[simp] theorem Loader.proceed_settings (l : Loader) (p : LoadPhase) (before : List BusEvent) (bytes : List Byte) :
    (l.proceed p before bytes).settings = l.settings := by
  unfold Loader.proceed; split <;> rfl

/-! ### The Timebase (R60 to R62) -/

/-- A divider load leaves no interval end to come through. -/
theorem Timebase.load_intervalEnd {t : Timebase} {d : Nat} (h : t.running = true) :
    (t.load d).intervalEnd = { t with divider := d, subTick := 0, restarted := false } := by
  simp [Timebase.load, Timebase.intervalEnd, h]

theorem Timebase.intervalEnd_ends {t : Timebase} (h : t.restarted = false) : t.intervalEnd = t.endInterval := by
  simp [Timebase.intervalEnd, h]

end Sys2Proof.Machine
end

