-- ==== Sys2Proof/Tests/Slice0.lean ====
section
/-! SUPPORT. Small tests: ill-formed commands, single steps from the manual's worked examples, and, for each statement in
Certificates/Slice0 that has hypotheses, a state and operands that meet them (at the boundaries of each clause). -/

namespace Sys2Proof.Tests

open Sys2Proof.Machine

/-! ### Small states -/

/-- The part in READY right after a release with LOADEN low. -/
def up : State := { State.reset with rstLow := false }

/-- The same with a command taken by the port. -/
def holds (c : Instr) (s : State := up) : State := { s with port := { s.port with held := some c } }

/-- The same with a request waiting on lane `l`, which the arbiter serves next. -/
def asks (l : LaneId) (r : Request) (s : State := up) : State :=
  { s with
    pointer := Fin.castSucc l
    lanes := s.lanes.set l { Lane.reset with state := .waiting, request := some r } }

/-- A frame in progress. -/
def framed (p : Port := Port.reset) : State := { up with port := { p with selected := true } }

/-- A window of one granule at address 0 that anyone may read and write. -/
def small (st : WState) (role : Role := .solo) : Window :=
  { Window.free with
    state := st, role := role, granule := 6, span := 1, rights := Vector.replicate 8 .readWrite, laneMask := 0xFF,
    claimLimit := 1, leaseReload := 1, activeMap := 1, shadowMap := 1 }

/-- The same with a lease. -/
def leased (st : WState) (mode : LeaseMode) (count : Nat) (action : ExpiryAction := .retire) (role : Role := .solo) :
    Window :=
  { small st role with leaseMode := mode, leaseCount := count, expiryAction := action }

def win (k : SlotId) (w : Window) (s : State := up) : State := { s with windows := s.windows.set k w }

def ent (i : EntryId) (e : Entry) (s : State := up) : State := { s with entries := s.entries.set i e }

/-- Agent 0, enabled on lane 0, with a quota of 8. -/
def agent0 (s : State := up) : State :=
  { s with agents := s.agents.set 0 { enabled := true, cls := 0, lane := 0, quota := 8, inUse := 0 } }

/-- A HELD entry of agent 0 on slot 0. -/
def heldEntry (kind : ClaimKind := .read) (countdown : Option Nat := none) : Entry :=
  { Entry.free with state := .held, kind := kind, countdown := countdown }

/-- A WAITING entry of agent 0 on slot 0. -/
def waitEntry (arrival : Nat) (kind : ClaimKind := .read) : Entry :=
  { Entry.free with state := .waiting, kind := kind, countdown := some 1, arrival := arrival }

/-- A request of agent 0. -/
def ask (kind : BitVec 4) (slot : Byte := 0) (length : BitVec 13 := 1) (address : BitVec 36 := 0) (wait : Byte := 0) :
    Request :=
  { kind := kind, agent := 0, tag := 0, slot := slot, waitLimit := wait, address := address, length := length }

/-- A field block that passes its checks. -/
def block : FieldBlock :=
  { base := 0, granule := 6, span := 1, access := 0, rights := 0xAAAA, laneMask := 0xFF, claimLimit := 1,
    holdLimit := 0, leaseMode := 0, leaseReload := 0, expiryAction := 0, idleLimit := 0, flags := 0, walkStart := 0,
    stride := 0, stepLimit := 0 }

def loading (p : LoadPhase) (l : Loader := Loader.reset) : State :=
  { up with
    service := .loading
    loader := { l with phase := p, result := { outcome := .pending, fault := none, attempts := 1 } } }

/-! ### Ill-formed commands -/

theorem test_wf_frameEnd_refuses_a_broken_byte : (Instr.frameEnd [true] []).wf = false := by decide
theorem test_wf_frameEnd_refuses_a_whole_byte_left_over : (Instr.frameEnd (byteBits 1) (byteBits 1)).wf = false := by decide
theorem test_wf_frameEnd_takes_seven_bits_left_over :
    (Instr.frameEnd (byteBits 1) (List.replicate 7 true)).wf = true := by decide
theorem test_wf_readResponse_refuses_an_incomplete_code :
    (Instr.readResponse [false, false, false, false, false, false, true]).wf = false
      ∧ (Instr.readResponse [false, false, false, false, false, false, true, false]).wf = true := by decide
theorem test_wf_lookupRead_refuses_another_kind : (Instr.lookupRead 0 (ask 2)).wf = false := by decide
theorem test_wf_lookupWrite_refuses_another_kind : (Instr.lookupWrite 0 (ask 1)).wf = false := by decide
theorem test_wf_claimRead_refuses_another_kind : (Instr.claimRead 0 (ask 4)).wf = false := by decide
theorem test_wf_claimWrite_refuses_another_kind : (Instr.claimWrite 0 (ask 3)).wf = false := by decide
theorem test_wf_release_refuses_another_kind : (Instr.release 0 (ask 6)).wf = false := by decide
theorem test_wf_renew_refuses_another_kind : (Instr.renewRequest 0 (ask 5)).wf = false := by decide
theorem test_wf_badKind_refuses_a_defined_kind : (Instr.badKind 0 (ask 6)).wf = false := by decide
theorem test_wf_badKind_takes_an_undefined_kind :
    (Instr.badKind 0 (ask 0)).wf = true ∧ (Instr.badKind 0 (ask 7)).wf = true := by decide
theorem test_wf_image_parts_refuse_wrong_lengths :
    (Instr.imageHeader []).wf = false ∧ (Instr.settingsRecord []).wf = false ∧ (Instr.agentRecord []).wf = false
      ∧ (Instr.windowRecord []).wf = false := by decide
theorem test_ill_formed_request_changes_nothing :
    exec (.lookupRead 0 (ask 2)) (asks 0 (ask 2)) = .next (asks 0 (ask 2)) := by
  have h : ((Instr.lookupRead 0 (ask 2)).wf && (asks 0 (ask 2)).requestDue 0 (ask 2)) = false := by decide
  show execLookupRead 0 (ask 2) (asks 0 (ask 2)) = _
  unfold execLookupRead
  exact takeRequest_notDue h

/-! ### Single steps and formats -/

theorem test_no_row_has_a_word : decodeTableWord 32 0 = none := by decide
theorem test_bytes_most_significant_first : bytesOf 3 0x012345 = [0x01, 0x23, 0x45] := by decide
theorem test_natOf_reads_them_back : natOf [0x01, 0x23, 0x45] = 0x012345 := by decide
theorem test_slot_numbers_end_at_63 : slotOf 63 = some 63 ∧ slotOf 64 = none := by decide
theorem test_entry_numbers_end_at_47 : entryOf 47 = some 47 ∧ entryOf 48 = none := by decide
theorem test_agent_numbers_end_at_31 : agentOf 31 = some 31 ∧ agentOf 32 = none := by decide
theorem test_block_passes_its_checks : block.check = none := by decide
theorem test_block_with_granule_5_is_BAD_FIELD : ({ block with granule := 5 } : FieldBlock).check = some .badField := by
  decide
theorem test_block_off_its_granule_is_ALIGN : ({ block with base := 32 } : FieldBlock).check = some .align := by decide
theorem test_block_past_the_top_is_BAD_SPAN :
    ({ block with base := 0xFFFFFFFC0#40, span := 2 } : FieldBlock).check = some .badSpan := by decide
theorem test_status_byte_shows_busy_and_loading :
    (holds .status { up with service := .loading }).statusByte = 0xC0 := by decide
theorem test_lookup_granted_on_a_small_window :
    (agent0 (win 0 (small .opened))).lookupVerdict 0 (ask 1 0 64) .read = .granted 0 := by decide
theorem test_lookup_past_the_end_is_SPLIT :
    (agent0 (win 0 (small .opened))).lookupVerdict 0 (ask 1 0 65) .read = .refused .split (some 0) := by decide
theorem test_lookup_beside_the_window_is_NO_WINDOW :
    (agent0 (win 0 (small .opened))).lookupVerdict 0 (ask 1 0 1 64) .read = .refused .noWindow none := by decide
theorem test_write_lookup_needs_READ_WRITE :
    (agent0 (win 0 { small .opened with rights := Vector.replicate 8 .read })).lookupVerdict 0 (ask 2) .write
      = .refused .noRight (some 0) := by decide
theorem test_filter2_changes_at_the_second_sample :
    ((({ setting := .filter2, sampled := true, high := false, run := 0 } : LineState).sample true).sample true).high
      = true := by decide
theorem test_map_word_is_replaced_whole : mapWord (setMapWord (fullMap 256) 7 0x12345678) 7 = 0x12345678 := by decide
theorem test_header_of_a_wrong_version_is_BAD_HEADER :
    headerCheck [0x44, 0x46, 2, 0, 0, 0, 32, 0, 0, 0, 0, 0, 0, 0, 0, 0] = some .badHeader := by decide
theorem test_header_of_an_empty_image_passes :
    headerCheck [0x44, 0x46, 1, 0, 0, 0, 32, 0, 0, 0, 0, 0, 0, 0, 0, 0] = none := by decide

theorem test_frame_bits_come_most_significant_first :
    frameBytes [false, true, false, false, false, false, true, false, true, true, true, true, true, true, true, false, true]
      = [0x42, 0xFE] := by decide
theorem test_msdo_shows_the_status_byte_first :
    (framed { Port.reset with statusLatch := 0x80, shiftOut := [0x01] }).port.msdoBit 0 = some true
      ∧ (framed { Port.reset with statusLatch := 0x80, shiftOut := [0x01] }).port.msdoBit 15 = some true
      ∧ (framed { Port.reset with statusLatch := 0x80, shiftOut := [0x01] }).port.msdoBit 16 = some false := by decide
theorem test_address_bytes_carry_the_direction : addressByte 0 false = 0xB0 ∧ addressByte 7 true = 0xBF := by decide
theorem test_lines_are_released_in_reset : State.reset.twoWire = (true, true) := by decide
theorem test_start_leaves_both_lines_low :
    (loading .addressing { Loader.reset with bus := [.start] }).twoWire = (false, false) := by decide
theorem test_end_pending_at_a_divider_load_is_discarded :
    (({ Timebase.reset with running := true } : Timebase).load 1).intervalEnd.windowTicks = 0 := by decide

/-! ### Hypotheses are met: the queue, reset and the port -/

theorem witness_StepTakesFrontCommand : ({ up with pending := [.status, .tick] } : State).pending = .status :: [.tick] := by
  decide

theorem witness_IdleStepIsOneRefclkPeriod :
    (up.pending = [] ∧ up.timebase.running = false)
      ∧ (let tb : Timebase := { Timebase.reset with running := true, subTick := 9998 }
         tb.subTick + 1 < tb.divider)
      ∧ (let tb : Timebase := { Timebase.reset with running := true, subTick := 9999 }
         tb.divider ≤ tb.subTick + 1) := by
  decide

theorem witness_DeviceResetGivesResetValues :
    State.reset.rstLow = true ∧ Instr.tick ≠ .deviceReset ∧ ∀ loaden imga, Instr.tick ≠ .resetRelease loaden imga :=
  ⟨by decide, by decide, fun _ _ h => (by cases h)⟩

theorem witness_ArbiterServesInCircularOrder :
    (let s : State := { asks 2 (ask 1) (asks 0 (ask 1)) with pointer := 3 }
     s.arbiterChoice = some 0 ∧ (s.lane 0).state = .waiting ∧ (s.lane 2).state = .waiting)
      ∧ (holds .status (asks 0 (ask 1))).arbiterChoice = some 0
      ∧ ({ holds .status (asks 0 (ask 1)) with pointer := 1 } : State).arbiterChoice = some 4
      ∧ (holds .loadAbort).arbiterChoice = none := by
  decide

theorem witness_ResetReleaseSamplesStraps : State.reset.rstLow = true := by decide

theorem witness_FrameStartLatchesStatus : up.rstLow = false ∧ up.port.selected = false := by decide

theorem witness_FrameEndIsJudged :
    (framed.rstLow = false ∧ framed.port.selected = true ∧ framed.port.copied = false)
      ∧ (framed { Port.reset with held := some .status }).port.held ≠ none ∧ framed.port.held = none
      ∧ ([0x03] : List Byte).head? ≠ some 0x02 ∧ operandCount 0x03 = none ∧ operandCount 0x42 = some 1
      ∧ operandCount 0x01 = some 0 ∧ operandCount 0x59 = some 0 ∧ (List.replicate 7 true).length < 8
      ∧ ({ framed with service := .loading } : State).service = .loading ∧ framed.service = .ready := by
  decide

theorem witness_ReadResponseReturnsBuffer :
    framed.rstLow = false ∧ framed.port.selected = true ∧ framed.port.copied = false
      ∧ framed.port.placedSinceCopy = false ∧ (framed { Port.reset with copied := true }).port.copied = true
      ∧ (byteBits 0xFF).length % 8 = 0 ∧ ([true] : List Bool).length < 8 ∧ up.port.selected = false := by
  decide

theorem witness_WireFieldsSpellBack :
    Reason.group.code ≤ 17 ∧ Lane.reset.channel = .free ∧ ({ Lane.reset with channel := .answer } : Lane).channel = .answer
      ∧ (let n : Notice := { entry := 47, slot := 63, kind := .write, outcome := .windowGone }
         ({ Lane.reset with channel := .notice n } : Lane).channel = .notice n ∧ n.word0 = 0xFFDF) := by
  decide

theorem witness_CommandFramesSpellTheirCommands :
    framed.rstLow = false ∧ framed.port.selected = true ∧ framed.port.copied = false ∧ framed.port.held = none
      ∧ framed.service = .ready := by
  decide

/-- A small window keeps its ranges. -/
theorem small_inRange (st : WState) (h : st ≠ .armed) (role : Role := .solo) : (small st role).InRange := by
  simp [Window.InRange, small, Window.free, h]

theorem witness_QueriesReport :
    ((holds .status).commandDue .status = true
      ∧ (holds (.agentQuery 31)).commandDue (.agentQuery 31) = true ∧ agentOf 31 = some 31
      ∧ (holds (.agentQuery 32)).commandDue (.agentQuery 32) = true
      ∧ (holds (.claimQuery 47)).commandDue (.claimQuery 47) = true ∧ entryOf 47 = some 47
      ∧ (up.entry 47).state = .free ∧ ((ent 47 heldEntry).entry 47).state ≠ .free
      ∧ (holds (.claimQuery 48)).commandDue (.claimQuery 48) = true)
      ∧ ((holds (.windowQuery 63)).commandDue (.windowQuery 63) = true ∧ slotOf 63 = some 63
        ∧ (up.window 63).state = .free ∧ ((win 63 (small .staged)).window 63).state ≠ .free
        ∧ (holds (.windowQuery 64)).commandDue (.windowQuery 64) = true)
      ∧ (small .staged).InRange :=
  ⟨by decide, by decide, small_inRange .staged (by decide)⟩

/-! ### Hypotheses are met: agents and windows -/

theorem witness_AgentSetChecksAndLoads :
    (∀ c ∈ ([.agentSet 32 1 0 0 0, .agentSet 0 2 0 0 0, .agentSet 0 1 8 0 0, .agentSet 0 1 0 4 0, .agentSet 0 1 0 0 9,
        .agentSet 31 1 7 3 8] : List Instr), (holds c).commandDue c = true)
      ∧ agentOf 31 = some 31
      ∧ (let s := agent0 (ent 0 heldEntry)
         (s.entry 0).state ≠ .free ∧ (s.entry 0).agent = 0 ∧ (1 : ClassId) ≠ (s.agent 0).cls)
      ∧ (∀ i : EntryId, (up.entry i).state ≠ .free → (up.entry i).agent ≠ 31) ∧ (up.agent 31).inUse ≤ 8 := by
  decide

/-- A state without members has its groups whole. -/
theorem groupsAgree_of_noMember (s : State) (h : ∀ k, (s.window k).isMember = false) : GroupsAgree s :=
  fun k hk => by rw [h k] at hk; cases hk

/-- Agent 0 waits first and agent 1 behind it on the OPEN window 0; agent 0 is the last holder of the DRAINING window 1. -/
def disabling : State :=
  ent 2 { heldEntry with slot := 1 } (ent 1 { waitEntry 2 with agent := 1 } (ent 0 (waitEntry 1)
    (win 1 (small .draining) (win 0 (small .opened)))))

theorem disabling_queues : QueuesOrdered disabling := by
  have h : ∀ i, (disabling.entry i).state = .waiting → i = 0 ∨ i = 1 := by decide
  refine ⟨by decide, fun i j hi hj _ ha => ?_, by decide⟩
  rcases h i hi with rfl | rfl <;> rcases h j hj with rfl | rfl <;> first | rfl | exact absurd ha (by decide)

theorem witness_AgentDisableFreesItsEntries :
    ((holds (.agentSet 0 0 7 3 8) disabling).commandDue (.agentSet 0 0 7 3 8) = true ∧ agentOf 0 = some 0)
      ∧ QueuesOrdered disabling ∧ GroupsAgree disabling
      ∧ ((disabling.entry 0).agent = 0 ∧ (disabling.entry 0).state = .waiting ∧ (disabling.entry 1).agent ≠ 0
        ∧ (disabling.entry 1).state = .waiting ∧ (disabling.window 0).state = .opened
        ∧ (disabling.window 1).state = .draining ∧ disabling.owner 1 = 1)
      ∧ (((ent 0 heldEntry).entry 0).state ≠ .free ∧ ∀ k : SlotId, ((ent 0 heldEntry).window k).state ≠ .draining) :=
  ⟨by decide, disabling_queues, groupsAgree_of_noMember _ (by decide), by decide, by decide⟩

theorem witness_FieldChecksAreTheTable :
    block.check = none ∧ ({ block with flags := 0x20 } : FieldBlock).check = some .badField
      ∧ ({ block with flags := 4, stride := 6, stepLimit := 4095, walkStart := 32 } : FieldBlock).check = some .align
      ∧ ({ block with granule := 24, span := 257 } : FieldBlock).check = some .badField
      ∧ ({ block with granule := 24, span := 256 } : FieldBlock).check = none
      ∧ ({ block with flags := 4, stride := 28, stepLimit := 1, walkStart := 0xFFFFFFFC0, span := 2 } :
          FieldBlock).check = some .badSpan := by
  decide

theorem witness_WindowCreateChecksInOrder :
    (∀ c ∈ ([.windowCreate 64 0 block, .windowCreate 63 3 block, .windowCreate 63 2 block,
        .windowCreate 63 1 { block with granule := 5 }, .windowCreate 1 2 { block with leaseMode := 1 }] : List Instr),
        (holds c).commandDue c = true)
      ∧ slotOf 63 = some 63 ∧ (up.window 63).state = .free ∧ ((win 63 (small .opened)).window 63).state ≠ .free
      ∧ (let s := win 0 (small .staged .head)
         (s.window 0).state ≠ .free ∧ (s.window 0).role ≠ .solo ∧ (s.window (s.owner 0)).state = .staged)
      ∧ (let s := win 0 (small .armed .head)
         (s.window (s.owner 0)).state ≠ .staged)
      ∧ ({ block with granule := 5 } : FieldBlock).check = some .badField := by
  decide

theorem witness_WindowCreateLoadsRecord :
    (holds (.windowCreate 1 2 block) (win 0 (small .staged .head))).commandDue (.windowCreate 1 2 block) = true
      ∧ slotOf 1 = some 1 ∧ roleOf 2 = some .member ∧ block.check = none ∧ block.leaseMode = 0
      ∧ (let s := win 0 (small .staged .head)
         (s.window 1).state = .free ∧ (s.window 0).state ≠ .free ∧ (s.window 0).role ≠ .solo
           ∧ (s.window (s.owner 0)).state = .staged ∧ (1 : SlotId).val ≠ (s.owner 0).val + 8)
      ∧ roleOf 0 = some .solo ∧ roleOf 1 = some .head := by
  decide

theorem witness_WindowModifyChecksInOrder :
    ((∀ c ∈ ([.windowModify 64 0 block, .windowModify 63 64 block, .windowModify 63 63 block] : List Instr),
        (holds c).commandDue c = true)
      ∧ slotOf 63 = some 63 ∧ (up.window 63).state = .free ∧ ((win 63 (small .armed)).window 63).state = .armed
      ∧ ((win 63 (small .staged .member)).window 63).role = .member
      ∧ ((win 63 (small .opened)).window 63).state ≠ .staged ∧ (63 : Byte).getLsbD 3 = true)
      ∧ (win 0 (small .opened)).ModifyFits 0 6 { block with laneMask := 0 }
      ∧ FieldBlock.MergesTo 6 { block with laneMask := 0 } (small .opened).block
          { block with laneMask := 0, leaseReload := 1 }
      ∧ ({ block with laneMask := 0, leaseReload := 1 } : FieldBlock).check = some .badField := by
  refine ⟨by decide, ?_, ?_, by decide⟩
  · unfold State.ModifyFits; decide
  · unfold FieldBlock.MergesTo; decide

theorem witness_WindowModifyAccessAndClaims :
    (holds (.windowModify 0 6 block) (win 0 (small .opened))).commandDue (.windowModify 0 6 block) = true
      ∧ slotOf 0 = some 0 ∧ ((win 0 (small .opened)).window 0).state = .opened
      ∧ ((win 0 (small .opened)).window 0).InRange
      ∧ block.access.toNat ≤ 1 ∧ (∀ c : ClassId, block.rights.toNat / 4 ^ c.val % 4 ≠ 3) ∧ block.laneMask ≠ 0
      ∧ 1 ≤ block.claimLimit.toNat ∧ block.flags.toNat < 32
      ∧ (List.finRange 48).countP (fun i => (up.entry i).state == .held && (up.entry i).slot == 0)
          ≤ block.claimLimit.toNat
      ∧ (let s := ent 1 heldEntry (ent 0 heldEntry)
         block.claimLimit.toNat
           < (List.finRange 48).countP fun i => (s.entry i).state == .held && (s.entry i).slot == 0) :=
  ⟨by decide, by decide, by decide, small_inRange .opened (by decide), by decide, by decide, by decide, by decide,
    by decide, by decide, by decide⟩

theorem witness_WindowModifyLeaseIdleAndAllGroups :
    (∀ x ∈ ([0x10, 0x08, 0x3F] : List Byte),
        (holds (.windowModify 0 x block) (win 0 (small .staged))).commandDue (.windowModify 0 x block) = true)
      ∧ slotOf 0 = some 0 ∧ ((win 0 (small .staged)).window 0).state = .staged
      ∧ ((win 0 (small .staged)).window 0).InRange ∧ ((win 0 (small .staged)).window 0).role ≠ .member
      ∧ block.leaseMode = ((win 0 (small .staged)).window 0).leaseMode.code ∧ block.check = none
      ∧ block.flags.toNat < 32
      ∧ (∀ i : EntryId, (up.entry i).state = .held → (up.entry i).slot ≠ 0)
      ∧ (win 1 (small .staged .member)).ModifyFits 1 0x37 block
      ∧ FieldBlock.MergesTo 0x37 block (small .staged .member).block { block with leaseReload := 1 }
      ∧ ({ block with leaseReload := 1 } : FieldBlock).check = none :=
  ⟨by decide, by decide, by decide, small_inRange .staged (by decide), by decide, by decide, by decide, by decide,
    by decide, by unfold State.ModifyFits; decide, by unfold FieldBlock.MergesTo; decide, by decide⟩

/-! ### Hypotheses are met: units, maps and part-wide commands -/

/-- A head at slot 0 and a member at slot 1, in one state. -/
def group (st : WState) : State := win 1 (small st .member) (win 0 (small st .head))

theorem witness_UnitIsHeadAndItsMembers :
    ((group .opened).window 0).isHead = true ∧ (up.window 0).isHead = false
      ∧ (∀ i : SlotId, 0 < i → i ≤ 1 → ((group .opened).window i).isMember = true)
      ∧ (Gate.reset.binding = none ∧ ({ Gate.reset with binding := some 1, mode := .toggle } : Gate).binding = some 1) := by
  decide

theorem witness_ActivateStartsUnit :
    (holds (.activate 0) (group .staged)).commandDue (.activate 0) = true ∧ slotOf 0 = some 0
      ∧ ((group .staged).window 0).state = .staged ∧ ((group .staged).window 0).role ≠ .member
      ∧ ((group .staged).window 0).leaseMode = .none ∧ (leased .staged .timed 0).leaseMode = .timed
      ∧ (leased .staged .uses 0).leaseMode = .uses := by
  decide

theorem witness_DisarmAndFreezeActOnUnit :
    (holds (.disarm 0) (win 0 (leased .armed .timed 0))).commandDue (.disarm 0) = true
      ∧ ((win 0 (leased .armed .timed 0)).window 0).state = .armed
      ∧ (holds (.freeze 0) (group .opened)).commandDue (.freeze 0) = true
      ∧ ((group .opened).window 0).state = .opened ∧ ((group .frozen).window 0).state = .frozen
      ∧ ((group .opened).window 0).role ≠ .member := by
  decide

theorem witness_ThawReopensFrozenSlots :
    (holds (.thaw 0) (group .frozen)).commandDue (.thaw 0) = true ∧ slotOf 0 = some 0
      ∧ ((group .frozen).window 0).role ≠ .member ∧ ((group .frozen).window 0).state = .frozen := by
  decide

theorem witness_RetireDrainsOrFreesUnit :
    (holds (.retire 0 0) (ent 0 heldEntry (group .opened))).commandDue (.retire 0 0) = true
      ∧ (let s := ent 0 heldEntry (group .opened)
         (s.window 0).role ≠ .member ∧ (s.window 0).state = .opened ∧ (s.entry 0).state = .held
           ∧ (s.entry 0).slot ∈ s.unitSlots 0)
      ∧ ((1 : Byte).getLsbD 0 = true ∧ (0 : Byte).getLsbD 0 = false)
      ∧ (holds (.retire 1 0) (group .staged)).commandDue (.retire 1 0) = true
      ∧ ((group .staged).window 1).isMember = true ∧ ((group .staged).window ((group .staged).owner 1)).state = .staged
      ∧ ((group .staged).window 2).isMember = false := by
  decide

theorem witness_WindowCommandsRefused :
    (∀ c ∈ ([.activate 64, .disarm 64, .freeze 64, .thaw 64, .renew 64 0, .retire 64 0, .mapWrite 64 0 0,
        .mapRead 64 0 0, .mapCommit 64, .mapWrite 63 8 0, .mapRead 63 8 0, .mapRead 63 7 2] : List Instr),
        (holds c).commandDue c = true)
      ∧ ((group .opened).window 1).isMember = true ∧ ((group .opened).window 0).isMember = false
      ∧ ((group .opened).window 0).leaseMode = .none ∧ (up.window 0).state = .free
      ∧ ((group .draining).window 0).state = .draining
      ∧ ((group .opened).window ((group .opened).owner 1)).state ≠ .staged := by
  decide

theorem witness_MapCommandsActOnOneSlot :
    (∀ c ∈ ([.mapWrite 63 7 5, .mapRead 63 7 1, .mapRead 63 0 0, .mapCommit 63] : List Instr),
        (holds c).commandDue c = true)
      ∧ slotOf 63 = some 63 ∧ ((win 63 (small .staged)).window 63).state = .staged
      ∧ ((win 63 (small .frozen)).window 63).state = .frozen
      ∧ ({ small .opened with shadowPending := true } : Window).shadowPending = true
      ∧ (small .opened).shadowPending = false := by
  decide

theorem witness_ClearAllAndSettings :
    (holds .clearAll).commandDue .clearAll = true ∧ (holds (.settings 255)).commandDue (.settings 255) = true
      ∧ (holds (.settings 0)).commandDue (.settings 0) = true := by
  decide

theorem witness_TimebaseCommandAndTick :
    (∀ r ∈ ([0, 1, 2, 3] : List Byte), (holds (.timebase 0 3 r)).commandDue (.timebase 0 3 r) = true)
      ∧ (let s : State := { up with timebase := { Timebase.reset with running := true } }
         s.rstLow = false ∧ s.timebase.running = true ∧ s.timebase.restarted = false)
      ∧ ({ Timebase.reset with running := true } : Timebase).load 1
        = { Timebase.reset with running := true, divider := 1, restarted := true } := by
  decide

theorem witness_PulseSettingsAndSamples :
    (holds (.pulseSet 3 0xAA)).commandDue (.pulseSet 3 0xAA) = true ∧ (0xAA : Byte).toNat / 64 ≠ 3
      ∧ (0xAA : Byte).toNat % 4 ≠ 3 ∧ (0xAA : Byte).toNat / 4 % 4 ≠ 3 ∧ (0xAA : Byte).toNat / 16 % 4 ≠ 3
      ∧ (holds (.pulseSet 3 0xC0)).commandDue (.pulseSet 3 0xC0) = true ∧ (0xC0 : Byte).toNat / 64 = 3
      ∧ up.rstLow = false := by
  decide

/-- A window that walks with pair A, one step from its limit. -/
def walking (steps : Nat) : Window :=
  { small .opened with
    walk := some { pair := .a, start := 0, stride := 6, stepLimit := 2, commitAtRestart := true }
    stepCount := steps }

theorem witness_PulseEventsMoveWalkingWindows :
    (let s := win 0 (walking 1) { up with pairA := { PairState.reset with restarts := 1, advances := 1 } }
     s.rstLow = false ∧ 0 < (s.pair .a).restarts ∧ 0 < (s.pair .a).advances)
      ∧ (walking 1).stepCount < 2 ∧ (walking 1).base + 2 ^ 6 + (walking 1).span * 2 ^ (walking 1).granule ≤ 2 ^ 36
      ∧ ¬ (walking 2).stepCount < 2 := by
  decide

theorem witness_GateCommandsLoadGates :
    (∀ c ∈ ([.gateBind 8 0 0 0 0, .gateBind 0 2 0 0 0, .gateBind 7 1 64 1 1, .gateBind 7 1 63 1 1, .gateBind 7 0 0 1 1,
        .gatesSet 0xFF] : List Instr), (holds c).commandDue c = true)
      ∧ gateOf 7 = some 7 ∧ slotOf 63 = some 63 ∧ (up.gate 0).binding = none := by
  decide

theorem witness_AttentionCommands :
    (∀ c ∈ ([.attentionEnable 0xFF, .ack 0xFF 1, .readExpired, .reportRead, .reportClear] : List Instr),
        (holds c).commandDue c = true)
      ∧ up.attn.report = none
      ∧ ((up.reported 0 (ask 3) .noWindow).attn.report).isSome = true := by
  decide

theorem witness_ReloadAndLoadAbort :
    (holds .reload).commandDue .reload = true ∧ (∀ k, (up.window k).state = .free) ∧ (∀ i, (up.entry i).state = .free)
      ∧ ((group .staged).window 0).state ≠ .free
      ∧ (holds .loadAbort (loading .addressing)).commandDue .loadAbort = true
      ∧ (loading .addressing).service = .loading ∧ up.service = .ready := by
  decide

/-! ### Hypotheses are met: lanes, lookups and claims -/

theorem witness_LaneTakesRequestsAndRefusesUndefinedKinds :
    (up.rstLow = false ∧ (up.lane 3).state = .idle ∧ (up.lane 3).words.length < 2)
      ∧ ((asks 3 (ask 1)).lane 3).state ≠ .idle
      ∧ up.requestTakenHigh 3 true = true ∧ up.requestTakenHigh 3 false = false
      ∧ (asks 3 (ask 1)).requestTakenHigh 3 true = false ∧ State.reset.requestTakenHigh 3 true = false
      ∧ (({ up with lanes := up.lanes.set 3 { Lane.reset with words := [1, 2] } } : State).lane 3).words = [1, 2]
      ∧ (asks 3 (ask 0)).requestDue 3 (ask 0) = true ∧ (ask 0).kind.toNat = 0
      ∧ (asks 3 (ask 7)).requestDue 3 (ask 7) = true ∧ 7 ≤ (ask 7).kind.toNat := by
  decide

theorem witness_LaneOffersAnswersThenNotices :
    (let s := ent 5 { heldEntry with outcome := some .granted, noticePending := true }
     (s.lane 0).channel = .free ∧ (s.lane 0).answer = none ∧ (s.entry 5).noticePending = true
       ∧ (s.agent (s.entry 5).agent).lane = 0 ∧ (s.entry 5).outcome = some .granted
       ∧ ∀ j, j < 5 → (s.entry j).noticePending = true → (s.agent (s.entry j).agent).lane ≠ 0)
      ∧ ({ Lane.reset with channel := .answer } : Lane).channel = .answer
      ∧ (up.laneAnswered 0 { kind := 1, tag := 0, outcome := .busy, reason := none, slot := none, entry := none,
                             laneMask := none }).rstLow = false := by
  decide

theorem witness_LookupChecksInOrder :
    (∀ r ∈ ([ask 1, ask 1 0 0, ask 1 0 4097, ask 2, ask 2 0 65] : List Request), (asks 0 r).requestDue 0 r = true)
      ∧ ((agent0.agent 0).enabled = true ∧ (agent0.agent 0).lane = 0 ∧ agent0.service = .ready)
      ∧ (up.agent 0).enabled = false ∧ (agent0.agent 0).lane ≠ 1
      ∧ (∀ st ∈ ([.opened, .frozen, .draining] : List WState),
          (small st).base ≤ 63 ∧ 63 < (small st).base + (small st).span * 2 ^ (small st).granule)
      ∧ ¬ (0 + 65 ≤ (small .opened).base + (small .opened).span * 2 ^ (small .opened).granule) := by
  decide

/-- A WRITE lookup of agent 0 on the CLAIMED window 0, whose USES lease has one use left. -/
def lastUse : State :=
  asks 0 (ask 2 0 64) (agent0 (ent 0 (heldEntry .write) (win 0 { leased .opened .uses 1 with access := .claimed })))

theorem lastUse_passes : lastUse.LookupPasses 0 (ask 2 0 64) true 0 := by
  refine ⟨by decide, by decide, by decide, by decide, by decide, by decide, by decide, by decide, by decide, by decide,
    fun i _ h => ?_, by decide, fun _ => by decide⟩
  have h0 : i = 0 := Nat.le_zero.mp (le_trans h (by decide))
  subst h0
  decide

theorem witness_LookupIsGranted :
    (lastUse.requestDue 0 (ask 2 0 64) = true ∧ (ask 2).kind = 2) ∧ lastUse.LookupPasses 0 (ask 2 0 64) true 0
      ∧ ((lastUse.window (lastUse.owner 0)).leaseMode = .uses ∧ (lastUse.window (lastUse.owner 0)).leaseCount ≤ 1
        ∧ (leased .opened .uses 2).leaseCount = 2 ∧ (small .opened).leaseMode ≠ .uses) :=
  ⟨by decide, lastUse_passes, by decide⟩

theorem witness_ClaimChecksInOrder :
    (∀ r ∈ ([ask 3, ask 4, ask 3 64] : List Request), (asks 0 r).requestDue 0 r = true)
      ∧ (agent0.service = .ready ∧ (agent0.agent 0).enabled = true ∧ (agent0.agent 0).lane = 0) ∧ slotOf 0 = some 0
      ∧ (small .opened).rights[(agent0.agent 0).cls] = .readWrite
      ∧ (let s := agent0 (ent 0 heldEntry (win 0 (small .opened)))
         (s.entry 0).state = .held ∧ (s.entry 0).agent = 0 ∧ (s.entry 0).slot = 0)
      ∧ ({ up with agents := up.agents.set 0 { AgentRecord.reset with enabled := true } } : State).service = .ready
      ∧ AgentRecord.reset.quota ≤ AgentRecord.reset.inUse := by
  decide

theorem witness_ClaimIsDecided :
    (let r := ask 3
     let s := asks 0 r (agent0 (win 0 (small .opened)))
     s.requestDue 0 r = true ∧ slotOf r.slot = some 0 ∧ (s.window 0).state = .opened ∧ s.service = .ready
       ∧ (s.agent 0).enabled = true ∧ (s.agent 0).lane = 0 ∧ (s.window 0).rights[(s.agent 0).cls] = .readWrite
       ∧ (∀ i : EntryId, (s.entry i).agent = 0 → (s.entry i).slot = 0 →
           (s.entry i).state = .free ∨ (s.entry i).state = .ended)
       ∧ (s.agent 0).inUse < (s.agent 0).quota ∧ (s.entry 0).state = .free)
      ∧ (let s := ent 0 { heldEntry with agent := 1 } (agent0 (win 0 (small .opened)))
         s.heldCount 0 = (s.window 0).claimLimit ∧ (s.entry 1).state = .free ∧ (s.entry 0).state ≠ .free)
      ∧ (ask 4 0 1 0 1).waitLimit ≠ 0 ∧ (ask 3).waitLimit = 0
      ∧ ∀ i, (({ up with entries := Vector.replicate 48 { heldEntry with agent := 1 } } : State).entry i).state ≠ .free := by
  decide

theorem witness_ReleaseFreesOrWithdraws :
    (let r := ask 5
     let s := asks 0 r (agent0 (ent 0 heldEntry (win 0 (small .opened))))
     s.requestDue 0 r = true ∧ s.service = .ready ∧ (s.agent 0).enabled = true ∧ (s.agent 0).lane = 0
       ∧ (s.entry 0).agent = 0 ∧ (s.entry 0).slot.val = r.slot.toNat ∧ (s.entry 0).state = .held
       ∧ ∀ j, ((s.entry j).state = .waiting ∨ (s.entry j).state = .held) → j = 0)
      ∧ (∀ i, ¬ ((up.entry i).state = .waiting ∨ (up.entry i).state = .held))
      ∧ (waitEntry 1).state = .waiting ∧ (waitEntry 1).arrival = 1 ∧ (waitEntry 2).arrival ≠ 1
      ∧ (let s := ent 0 heldEntry (win 0 (small .draining))
         (s.window 0).state = .draining ∧ s.owner 0 = 0
           ∧ ∀ j, j ≠ 0 → (s.entry j).state ≠ .held) := by
  decide

theorem witness_RenewLoadsTheLeaseCount :
    (asks 0 (ask 6)).requestDue 0 (ask 6) = true ∧ (asks 0 (ask 6 64)).requestDue 0 (ask 6 64) = true
      ∧ (let s := agent0 (ent 0 (heldEntry .write) (win 0 { leased .frozen .timed 0 with agentRenew := true }))
         (s.window 0).state = .frozen ∧ (s.window 0).role ≠ .member ∧ (s.window 0).leaseMode ≠ .none
           ∧ (s.window 0).agentRenew = true ∧ (s.entry 0).state = .held ∧ (s.entry 0).kind = .write)
      ∧ (small .opened .member).role = .member ∧ (small .opened).leaseMode = .none
      ∧ (leased .opened .timed 1).agentRenew = false
      ∧ (holds (.renew 0 0) (win 0 (leased .opened .timed 1))).commandDue (.renew 0 0) = true
      ∧ (holds (.renew 0 0xFFFF) (win 0 (leased .frozen .uses 0))).commandDue (.renew 0 0xFFFF) = true := by
  decide

theorem witness_GrantPassGrantsFromTheHead :
    (let s := ent 3 (waitEntry 1) (win 0 (small .opened))
     (s.window 0).state = .opened ∧ s.queueHead 0 = some 3 ∧ s.heldCount 0 < (s.window 0).claimLimit
       ∧ ∀ j : EntryId, (s.entry j).state ≠ .held)
      ∧ (let s := ent 0 heldEntry (ent 3 (waitEntry 1 .write) (win 0 (small .opened)))
         s.queueHead 0 = some 3 ∧ (s.entry 3).kind = .write ∧ s.heldCount 0 ≠ 0)
      ∧ up.queueHead 0 = none ∧ (up.window 0).state ≠ .opened := by
  decide

/-! ### Hypotheses are met: ticks -/

/-- A tick handed to each of the two blocks. -/
def ticked (s : State := up) : State := { s with timebase := { s.timebase with windowTicks := 1, claimTicks := 1 } }

theorem witness_WindowTickHandlesEachWindow :
    (ticked.rstLow = false ∧ 0 < ticked.timebase.windowTicks)
      ∧ (∀ w ∈ ([small .opened, small .staged, leased .opened .timed 2, leased .opened .timed 1 .retire,
          leased .opened .timed 1 .freeze, leased .opened .timed 1 .reload, leased .armed .timed 0,
          { small .opened with idleLimit := some 1, idleCount := 1 }, { small .draining with drainCount := 1 },
          { small .draining with drainCount := 2 }] : List Window), w.role = .solo)
      ∧ ((group .opened).window 0).isHead = true ∧ ((group .opened).window 0).state = .opened
      ∧ ∀ j ∈ (group .opened).unitSlots 0, ((group .opened).window j).idleLimit = none := by
  decide

/-- A group of a head with a lease and an idle count, and a member with an idle count. -/
def leasedGroup (st : WState) (count : Nat) (action : ExpiryAction) (idle : Nat) : State :=
  ticked (win 1 { small st .member with idleLimit := some 3, idleCount := 1 }
    (win 0 { leased st .timed count action .head with idleLimit := some 3, idleCount := idle, drainCount := count }))

theorem witness_WindowTickHandlesGroups :
    ((leasedGroup .opened 1 .retire 1).rstLow = false ∧ 0 < (leasedGroup .opened 1 .retire 1).timebase.windowTicks)
      ∧ (∀ s ∈ ([leasedGroup .opened 1 .retire 1, leasedGroup .opened 1 .freeze 2, leasedGroup .opened 1 .reload 1,
            leasedGroup .opened 1 .reload 2, leasedGroup .opened 2 .retire 1, leasedGroup .opened 2 .retire 2,
            leasedGroup .draining 1 .retire 1, leasedGroup .draining 2 .retire 1, leasedGroup .frozen 1 .retire 1] :
            List State),
          GroupsAgree s)
      ∧ ((leasedGroup .opened 1 .retire 1).owner 1 = 0 ∧ (leasedGroup .draining 1 .retire 1).owner 0 = 0) := by
  refine ⟨by decide, ?_, by decide⟩
  unfold GroupsAgree
  decide

theorem witness_LeaseExpiryActs :
    (let s := ticked (win 0 (leased .opened .timed 1))
     s.rstLow = false ∧ (s.window 0).state = .opened ∧ (s.window 0).role ≠ .member ∧ (s.window 0).leaseMode = .timed
       ∧ (s.window 0).leaseCount ≤ 1 ∧ 0 < s.timebase.windowTicks ∧ up.timebase.windowTicks = 0)
      ∧ lastUse.LookupPasses 0 (ask 2 0 64) true 0
      ∧ (lastUse.requestDue 0 (ask 2 0 64) = true ∧ (lastUse.window (lastUse.owner 0)).leaseMode = .uses
        ∧ (lastUse.window (lastUse.owner 0)).leaseCount ≤ 1)
      ∧ (∀ a ∈ ([.retire, .freeze, .reload] : List ExpiryAction), (leased .opened .uses 1 a).expiryAction = a)
      ∧ (let s := ent 0 heldEntry (win 0 (leased .opened .uses 1))
         (s.entry 0).state = .held ∧ (s.entry 0).slot ∈ s.unitSlots 0) :=
  ⟨by decide, lastUse_passes, by decide, by decide, by decide⟩

theorem witness_IdleAndDrainExpiriesAct :
    (up.rstLow = false ∧ up.timebase.windowTicks = 0)
      ∧ GroupsAgree (leasedGroup .opened 2 .retire 2) ∧ GroupsAgree (leasedGroup .opened 1 .reload 1)
      ∧ GroupsAgree (leasedGroup .draining 1 .retire 1)
      ∧ (let s := leasedGroup .opened 2 .retire 2
         s.rstLow = false ∧ 0 < s.timebase.windowTicks ∧ s.owner 1 = 0 ∧ (s.window 0).state = .opened
           ∧ (s.window 1).state = .opened ∧ (s.window 1).idleLimit ≠ none ∧ (s.window 1).idleCount ≤ 1
           ∧ 2 ≤ (s.window 0).leaseCount ∧ 2 ≤ (s.window 0).idleCount)
      ∧ (let s := leasedGroup .opened 1 .reload 1
         s.owner 0 = 0 ∧ (s.window 0).idleLimit ≠ none ∧ (s.window 0).idleCount ≤ 1
           ∧ (s.window 0).expiryAction = .reload)
      ∧ (let s := leasedGroup .draining 1 .retire 1
         (s.window 0).state = .draining ∧ (s.window 0).role ≠ .member ∧ (s.window 0).drainCount ≤ 1) := by
  refine ⟨by decide, ?_, ?_, ?_, by decide, by decide, by decide⟩ <;> unfold GroupsAgree <;> decide

theorem witness_ClaimTickCountsEveryEntry :
    ((ticked disabling).rstLow = false ∧ 0 < (ticked disabling).timebase.claimTicks)
      ∧ QueuesOrdered (ticked disabling) ∧ GroupsAgree (ticked disabling)
      ∧ ((heldEntry .read (some 1)).countdown = some 1 ∧ (heldEntry .read (some 2)).countdown = some 2
        ∧ heldEntry.countdown = none ∧ (waitEntry 1).countdown = some 1 ∧ (up.entry 0).state = .free)
      ∧ (((ticked disabling).entry 0).state = .waiting ∧ ((ticked disabling).entry 0).arrival = 1
        ∧ ((ticked disabling).entry 0).countdown = some 1 ∧ ((ticked disabling).window 0).state = .opened
        ∧ ((ticked disabling).entry 2).state = .held ∧ ((ticked disabling).window 1).state = .draining) :=
  ⟨by decide, disabling_queues, groupsAgree_of_noMember _ (by decide), by decide, by decide⟩

theorem witness_RevocationAndWaitExpiryEndOneEntry :
    (up.rstLow = false ∧ up.timebase.claimTicks = 0)
      ∧ (∀ st ∈ ([.opened, .frozen, .draining] : List WState),
          let s := ticked (ent 0 (heldEntry .read (some 1)) (win 0 (small st)))
          0 < s.timebase.claimTicks ∧ (s.entry 0).state = .held ∧ (s.entry 0).countdown = some 1
            ∧ (s.window 0).state = st)
      ∧ (let s := ent 1 heldEntry (win 0 (small .draining))
         (s.entry 1).state = .held ∧ (s.entry 1).slot ∈ s.unitSlots (s.owner 0))
      ∧ (let s := ticked (ent 0 (waitEntry 1) (win 0 (small .opened)))
         (s.entry 0).state = .waiting ∧ (s.entry 0).countdown = some 1 ∧ (s.window 0).state = .opened) := by
  decide

/-! ### Hypotheses are met: the image load -/

theorem witness_LoaderFollowsTheBus :
    (loading .busCheck).rstLow = false ∧ (loading .busCheck).loader.phase = .busCheck
      ∧ (loading .busCheck).loader.abortAsked = false ∧ (loading .addressing).loader.phase = .addressing
      ∧ (loading .addressing).loader.result.attempts < 4
      ∧ (let last : LoadResult := { outcome := .pending, fault := none, attempts := 4 }
         let s := { loading .addressing with loader := { Loader.reset with phase := .addressing, result := last } }
         s.rstLow = false ∧ s.loader.phase = .addressing ∧ 4 ≤ s.loader.result.attempts)
      ∧ (loading .addressing { Loader.reset with started := true }).loader.started = true
      ∧ (loading .settings).loader.phase = .settings
      ∧ (loading (.record 1)).loader.phase = .record 1 ∧ (loading .ending).loader.phase = .ending
      ∧ (loading .settings { Loader.reset with abortAsked := true }).loader.abortAsked = true
      ∧ (let f : LoadFault := { reason := .noDevice, index := none, why := none }
         (loading (.failing f) { Loader.reset with started := true }).loader.phase = .failing f
           ∧ (loading (.failing f) { Loader.reset with started := true }).loader.started = true) := by
  decide

/-- A NAK that does not end the load ends its attempt with a stop, whichever address byte drew it (R164). -/
theorem test_addressNak_stops :
    ((loading .addressing).nakTaken
        ((loading .addressing).loader.endAttempt (loading .addressing).sentToAddressNak)).twoWire = (true, true) := by
  rcases (loading .addressing).sentToAddressNak_cases with h | h <;> rw [h] <;> decide

/-- A NAK that fails the load leaves TWC low until its stop, whichever address byte drew it (R164, R165). -/
theorem test_addressNak_fails :
    let s := loading .addressing { Loader.reset with started := true }
    (s.nakTaken (s.loader.fail (.plain .noDevice) s.sentToAddressNak)).twoWire = (false, true) := by
  intro s
  rcases s.sentToAddressNak_cases with h | h <;> rw [h] <;> decide

theorem witness_HeaderAndSettingsRecordAreChecked :
    (loading .addressing).loader.phase = .addressing ∧ (loading .settings).loader.phase = .settings
      ∧ (loading .addressing { Loader.reset with abortAsked := true }).loader.abortAsked = true
      ∧ ([0x44, 0x46, 1, 32, 64, 0x11, 0x20, 0, 0, 0, 0, 0, 0, 0, 0, 0] : List Byte).length = 16
      ∧ (0x11 : Byte).toNat * 256 + (0x20 : Byte).toNat = 32 + 8 * 32 + 64 * 64
      ∧ ([0x01, 0, 0, 1, 255, 0, 0, 0, 0, 0, 0, 0, 0, 0, 0, 0] : List Byte).length = 16
      ∧ (0x01 : Byte).toNat * 65536 + 0 * 256 + 0 ≤ 65536 := by
  decide

theorem witness_ImageRecordsAreApplied :
    (let l : Loader := { Loader.reset with agentCount := 1, windowCount := 1 }
     (loading (.record 1) l).rstLow = false ∧ (loading (.record 1) { l with abortAsked := true }).loader.abortAsked = true
       ∧ (loading (.record 1) l).loader.phase = .record 1 ∧ 1 ≤ (loading (.record 1) l).loader.agentCount
       ∧ (loading (.record 2) l).loader.agentCount < 2
       ∧ 2 ≤ (loading (.record 2) l).loader.agentCount + (loading (.record 2) l).loader.windowCount)
      ∧ ([31, 1, 7, 3, 8, 0, 0, 0] : List Byte).length = 8 ∧ agentOf 31 = some 31
      ∧ (∀ i, (up.entry i).state = .free) ∧ (up.agent 31).inUse = 0
      ∧ (([63, 1] : List Byte) ++ block.bytes ++ List.replicate 34 (1 : Byte)).length = 64
      ∧ up.createCheck 63 1 block = .ok (63, .head) ∧ up.createCheck 64 1 block = .error .badSlot := by
  decide

theorem witness_LoadEndsInSuccessOrFailure :
    (let h : HeldSettings := { divider := 65536, runAtEnd := true, drainLimit := 255, enables := 0xFF }
     let s := loading .ending { Loader.reset with settings := some h }
     s.rstLow = false ∧ s.loader.phase = .ending ∧ s.loader.abortAsked = false
       ∧ s.loader.runningSum = s.loader.sumField ∧ s.loader.settings = some h)
      ∧ (loading .ending { Loader.reset with sumField := 1 }).loader.runningSum ≠ 1
      ∧ (let f : LoadFault := { reason := .noDevice, index := none, why := none }
         (loading (.failing f)).loader.phase = .failing f)
      ∧ (loading .settings { Loader.reset with abortAsked := true }).loader.abortAsked = true
      ∧ (loading .busCheck { Loader.reset with abortAsked := true }).loader.phase = .busCheck := by
  decide

/-! ### Hypotheses are met: what every step keeps -/

/-- The part in READY with one command waiting. -/
def waiting : State := { up with pending := [.frameStart] }

theorem waiting_steps : ∃ t, step waiting = .next t :=
  ⟨_, takeEvent_can (s := up) (can := !up.port.selected) (by decide) (by decide)⟩

theorem waiting_window_free (k : SlotId) : (waiting.window k).state = .free := by revert k; decide
theorem waiting_entry_free (i : EntryId) : (waiting.entry i).state = .free := by revert i; decide
theorem waiting_entry_arrival (i : EntryId) : (waiting.entry i).arrival = 0 := by revert i; decide
theorem waiting_gate (g : GateId) : (waiting.gate g).binding = none ∧ (waiting.gate g).active = false := by
  revert g; decide

theorem waiting_partInRange : PartInRange waiting :=
  ⟨by decide, by decide, by decide, by decide, by decide, fun _ h => (by cases h), by decide, by decide,
    show 0 < 1 by decide, show 0 < 1 by decide, show 0 < 1 by decide, show 0 < 1 by decide⟩

theorem waiting_groupsAgree : GroupsAgree waiting :=
  fun k h => by simp [Window.isMember, waiting_window_free k] at h

theorem waiting_windowsInRange : WindowsInRange waiting := fun k h => absurd (waiting_window_free k) h

theorem witness_StepsKeepGatesFollowing : GatesFollow waiting ∧ ∃ t, step waiting = .next t :=
  ⟨fun g => by rw [(waiting_gate g).1]; exact (waiting_gate g).2, waiting_steps⟩

theorem witness_StepsKeepGroupsAgreeing : GroupsAgree waiting ∧ TogglesQuiet waiting ∧ ∃ t, step waiting = .next t :=
  ⟨waiting_groupsAgree, fun g _ h => (by rw [(waiting_gate g).1] at h; cases h), waiting_steps⟩

theorem witness_StepsKeepWindowsInRange :
    GroupsAgree waiting ∧ WindowsInRange waiting ∧ PartInRange waiting ∧ ∃ t, step waiting = .next t :=
  ⟨waiting_groupsAgree, waiting_windowsInRange, waiting_partInRange, waiting_steps⟩

theorem witness_StepsKeepPartLoadAndLanesAgreeing :
    PartInRange waiting ∧ LoadingAgrees waiting ∧ LanesAgree waiting ∧ ∃ t, step waiting = .next t :=
  ⟨waiting_partInRange,
    ⟨by decide, by decide, by decide,
      fun h => (by rcases h with h | h | ⟨_, h⟩ | h <;> exact absurd h (by simp [waiting, up, State.reset, Loader.reset])),
      by decide⟩,
    fun l => by
      have h : ∀ l, waiting.lane l = Lane.reset := by decide
      rw [h l]
      exact ⟨by decide, by decide, by decide, by decide, by decide⟩,
    waiting_steps⟩

theorem witness_StepsKeepEntriesCounted :
    AgentsCounted waiting ∧ QueuesOrdered waiting ∧ ClaimsDistinct waiting ∧ ∃ t, step waiting = .next t :=
  ⟨fun a => ⟨by revert a; decide, by revert a; decide, by revert a; decide,
      fun _ i h => absurd (waiting_entry_free i) h⟩,
    ⟨fun i h => (by rw [waiting_entry_free i] at h; cases h),
      fun i _ h => (by rw [waiting_entry_free i] at h; cases h), fun i _ => waiting_entry_arrival i⟩,
    fun i _ h => (by simp [Entry.live, waiting_entry_free i] at h),
    waiting_steps⟩

theorem witness_StepsKeepClaimsFitting :
    GroupsAgree waiting ∧ WindowsInRange waiting ∧ ClaimsFit waiting ∧ HoldersFit waiting
      ∧ ∃ t, step waiting = .next t :=
  ⟨waiting_groupsAgree, waiting_windowsInRange,
    fun i => ⟨fun h => (by rw [waiting_entry_free i] at h; cases h),
      fun h => (by rw [waiting_entry_free i] at h; cases h)⟩,
    fun k => ⟨by revert k; decide, by revert k; decide⟩, waiting_steps⟩

end Sys2Proof.Tests
end

/-! ### The field checks of R12 and R14 -/

namespace Sys2Proof.Machine

/-! #### Codes that a byte may name -/

theorem leaseModeOf_eq_some_none {b : Byte} : leaseModeOf b = some .none ↔ b.toNat = 0 := by
  unfold leaseModeOf
  split <;> simp_all

theorem leaseModeOf_eq_some_timed {b : Byte} : leaseModeOf b = some .timed ↔ b.toNat = 1 := by
  unfold leaseModeOf
  split <;> simp_all

theorem leaseModeOf_eq_some_uses {b : Byte} : leaseModeOf b = some .uses ↔ b.toNat = 2 := by
  unfold leaseModeOf
  split <;> simp_all

theorem leaseModeOf_isSome {b : Byte} : (leaseModeOf b).isSome = true ↔ b.toNat ≤ 2 := by
  unfold leaseModeOf
  split <;> simp_all
  omega

theorem expiryActionOf_isSome {b : Byte} : (expiryActionOf b).isSome = true ↔ b.toNat ≤ 2 := by
  unfold expiryActionOf
  split <;> simp_all
  omega

/-! #### The three passes as statements -/

/-- Every field that is present is in its range and every code names a value (R14): the BAD_FIELD pass. -/
def FieldBlock.FieldsFit (b : FieldBlock) : Prop :=
  (6 ≤ b.granule.toNat ∧ b.granule.toNat ≤ 24) ∧ (1 ≤ b.span.toNat ∧ b.span.toNat ≤ 256)
    ∧ b.base.toNat < 2 ^ 36 ∧ b.access.toNat ≤ 1
    ∧ (∀ c : ClassId, b.rights.toNat / 4 ^ c.val % 4 ≠ 3) ∧ b.laneMask ≠ 0
    ∧ (1 ≤ b.claimLimit.toNat ∧ b.claimLimit.toNat ≤ 15)
    ∧ (b.leaseMode.toNat = 0
        ∨ (b.leaseMode.toNat ≤ 2 ∧ 1 ≤ b.leaseReload.toNat ∧ b.expiryAction.toNat ≤ 2))
    ∧ (b.flags.getLsbD 1 = true → 1 ≤ b.idleLimit.toNat)
    ∧ (b.flags.getLsbD 2 = true →
        b.walkStart.toNat < 2 ^ 36 ∧ b.granule.toNat ≤ b.stride.toNat ∧ b.stride.toNat ≤ 28
          ∧ 1 ≤ b.stepLimit.toNat ∧ b.stepLimit.toNat ≤ 4095)
    ∧ b.flags.toNat < 32

/-- The base, and the start of a walk, lie on the granule: the ALIGN pass. -/
def FieldBlock.OnGranule (b : FieldBlock) : Prop :=
  b.base.toNat % 2 ^ b.granule.toNat = 0
    ∧ (b.flags.getLsbD 2 = true → b.walkStart.toNat % 2 ^ b.granule.toNat = 0)

/-- The span, at the base and at the start of a walk, keeps within its limits: the BAD_SPAN pass. -/
def FieldBlock.SpanFits (b : FieldBlock) : Prop :=
  b.span.toNat * 2 ^ b.granule.toNat ≤ 2 ^ 32
    ∧ b.base.toNat + b.span.toNat * 2 ^ b.granule.toNat ≤ 2 ^ 36
    ∧ (b.flags.getLsbD 2 = true → b.walkStart.toNat + b.span.toNat * 2 ^ b.granule.toNat ≤ 2 ^ 36)

/-- The lease codes are judged as a group: NONE needs nothing more, the other modes a reload and an action (R14). -/
theorem FieldBlock.leaseFits_iff (b : FieldBlock) :
    (b.leaseMode.toNat = 0
        ∨ (b.leaseMode.toNat ≤ 2 ∧ 1 ≤ b.leaseReload.toNat ∧ b.expiryAction.toNat ≤ 2))
      ↔ ∃ m, leaseModeOf b.leaseMode = some m
          ∧ (m = .none ∨ (1 ≤ b.leaseReload.toNat ∧ (expiryActionOf b.expiryAction).isSome = true)) := by
  have named := leaseModeOf_isSome (b := b.leaseMode)
  have zero := leaseModeOf_eq_some_none (b := b.leaseMode)
  rcases h : leaseModeOf b.leaseMode with _ | m
  · simp [h] at named zero
    simp; omega
  · cases m <;> simp_all [expiryActionOf_isSome]

theorem FieldBlock.fieldsOk_iff {b : FieldBlock} : b.fieldsOk = true ↔ b.FieldsFit := by
  have reserved : b.flags.toNat / 32 = 0 ↔ b.flags.toNat < 32 := by omega
  unfold FieldBlock.FieldsFit FieldBlock.fieldsOk
  rw [b.leaseFits_iff]
  simp only [Bool.and_eq_true, Bool.or_eq_true, decide_eq_true_eq]
  rcases h : leaseModeOf b.leaseMode with _ | m
  · simp
  · cases m <;>
      simp [FieldBlock.rightCode, FieldBlock.idlePresent, FieldBlock.walkPresent, Config.addressSpace, reserved,
        and_assoc, imp_iff_not_or]

theorem FieldBlock.aligned_iff {b : FieldBlock} : b.aligned = true ↔ b.OnGranule := by
  simp [FieldBlock.aligned, FieldBlock.OnGranule, FieldBlock.walkPresent, imp_iff_not_or]

theorem FieldBlock.spanOk_iff {b : FieldBlock} : b.spanOk = true ↔ b.SpanFits := by
  simp only [FieldBlock.spanOk, Bool.and_eq_true, Bool.or_eq_true, decide_eq_true_eq]
  simp [FieldBlock.SpanFits, FieldBlock.walkPresent, Config.maxSpanBytes, Config.addressSpace,
    imp_iff_not_or, and_assoc]

/-! #### The first pass that fails -/

theorem FieldBlock.check_badField {b : FieldBlock} (h : ¬ b.FieldsFit) : b.check = some .badField := by
  rw [← FieldBlock.fieldsOk_iff, Bool.not_eq_true] at h
  simp [FieldBlock.check, h]

theorem FieldBlock.check_align {b : FieldBlock} (fit : b.FieldsFit) (h : ¬ b.OnGranule) : b.check = some .align := by
  rw [← FieldBlock.fieldsOk_iff] at fit
  rw [← FieldBlock.aligned_iff, Bool.not_eq_true] at h
  simp [FieldBlock.check, fit, h]

theorem FieldBlock.check_badSpan {b : FieldBlock} (fit : b.FieldsFit) (on : b.OnGranule) (h : ¬ b.SpanFits) :
    b.check = some .badSpan := by
  rw [← FieldBlock.fieldsOk_iff] at fit
  rw [← FieldBlock.aligned_iff] at on
  rw [← FieldBlock.spanOk_iff, Bool.not_eq_true] at h
  simp [FieldBlock.check, fit, on, h]

/-- A block passes its checks when it passes all three passes (R12). -/
theorem FieldBlock.check_eq_none {b : FieldBlock} : b.check = none ↔ b.FieldsFit ∧ b.OnGranule ∧ b.SpanFits := by
  rw [← FieldBlock.fieldsOk_iff, ← FieldBlock.aligned_iff, ← FieldBlock.spanOk_iff]
  cases f : b.fieldsOk <;> cases a : b.aligned <;> cases p : b.spanOk <;> simp [FieldBlock.check, f, a, p]

/-- Settles O15: each pass is its statement, and the check answers with the first that fails. -/
theorem fieldChecksAreTheTable : Obligations.FieldChecksAreTheTable := fun _ =>
  ⟨FieldBlock.check_badField, FieldBlock.check_align, FieldBlock.check_badSpan,
    fun fit on spans => FieldBlock.check_eq_none.mpr ⟨fit, on, spans⟩⟩

end Sys2Proof.Machine

/-! ### Management commands that go through the arbiter, and the queries -/

namespace Sys2Proof.Machine

/-! #### The taking of a command (R158) -/

/-- What the owning block does and replies on the granted state is what the command does. -/
theorem takeCommand_eq {code : Byte} {c : Instr} {body : State → State × Reply} {s t : State} {r : Reply}
    (due : s.commandDue c = true) (arbiter : c.direct = false) (h : body s.portGranted = (t, r)) :
    takeCommand code c body s = .next (t.complete code r) := by
  rw [takeCommand_due due, State.commandTaken_arbiter arbiter, h]

theorem takeCommand_done {code : Byte} {c : Instr} {body : State → State × Reply} {s t : State} {bytes : List Byte}
    (due : s.commandDue c = true) (arbiter : c.direct = false) (h : body s.portGranted = (t, .done bytes)) :
    takeCommand code c body s = .next (t.answered code none bytes) :=
  takeCommand_eq due arbiter h

theorem takeCommand_refused {code : Byte} {c : Instr} {body : State → State × Reply} {s : State} {why : Reason}
    (due : s.commandDue c = true) (arbiter : c.direct = false) (h : body s.portGranted = s.portGranted.refuse why) :
    takeCommand code c body s = .next (s.portGranted.answered code (some why) []) :=
  takeCommand_eq due arbiter h

@[simp] theorem State.portGranted_unitSlots (s : State) (k : SlotId) : s.portGranted.unitSlots k = s.unitSlots k :=
  State.unitSlots_congr (fun _ => rfl) k

@[simp] theorem State.portGranted_owner (s : State) (k : SlotId) : s.portGranted.owner k = s.owner k :=
  State.owner_congr (s := s) (t := s.portGranted) (fun _ => rfl) k

/-! #### Numbers that name no record -/

theorem slotOf_eq_none {b : Byte} : slotOf b = none ↔ 63 < b.toNat := by
  unfold slotOf
  split <;> simp <;> omega

theorem slotOf_isSome {b : Byte} (h : b.toNat ≤ 63) : ∃ k, slotOf b = some k :=
  Option.isSome_iff_exists.mp (Option.isSome_iff_ne_none.mpr fun e => by rw [slotOf_eq_none] at e; omega)

theorem entryOf_eq_none {b : Byte} : entryOf b = none ↔ 47 < b.toNat := by
  unfold entryOf
  split <;> simp <;> omega

theorem agentOf_eq_none {b : Byte} : agentOf b = none ↔ 31 < b.toNat := by
  unfold agentOf
  split <;> simp <;> omega

/-! #### The field block of a record in its ranges (12.3) -/

theorem Right.code_lt (x : Right) : x.code < 3 := by cases x <;> decide

/-- The rights field is the sum of its eight 2-bit codes. -/
theorem rightsField_eq (rights : Vector Right 8) :
    rightsField rights
      = rights[0].code + rights[1].code * 4 + rights[2].code * 16 + rights[3].code * 64 + rights[4].code * 256
        + rights[5].code * 1024 + rights[6].code * 4096 + rights[7].code * 16384 := by
  simp [rightsField, List.finRange, List.ofFn, Fin.foldr, Fin.foldr.loop]

theorem rightsField_lt (rights : Vector Right 8) : rightsField rights < 2 ^ 16 := by
  have lt := fun c : ClassId => (rights[c]).code_lt
  have := lt 0; have := lt 1; have := lt 2; have := lt 3; have := lt 4; have := lt 5; have := lt 6; have := lt 7
  rw [rightsField_eq]
  simp at *
  omega

/-- Bits 2c + 1 … 2c of the rights field are the code of class c. -/
theorem rightsField_digit (rights : Vector Right 8) (c : ClassId) :
    rightsField rights / 4 ^ c.val % 4 = (rights[c]).code := by
  have lt := fun c : ClassId => (rights[c]).code_lt
  have := lt 0; have := lt 1; have := lt 2; have := lt 3; have := lt 4; have := lt 5; have := lt 6; have := lt 7
  rw [rightsField_eq]
  fin_cases c <;> simp at * <;> omega

/-- The flag byte of a field block, bit by bit (12.3). -/
theorem flagByte_getLsbD : ∀ (renew idle walk pairB commit : Bool) (i : Fin 8),
    (BitVec.ofNat 8 ((if renew then 1 else 0) + (if idle then 2 else 0)
        + if walk then 4 + (if pairB then 8 else 0) + (if commit then 16 else 0) else 0)).getLsbD i
      = (if i = 0 then renew else if i = 1 then idle else if i = 2 then walk
          else if i = 3 then walk && pairB else if i = 4 then walk && commit else false) := by
  decide

theorem Window.block_flags_getLsbD (w : Window) {i : Nat} (h : i < 8) :
    w.block.flags.getLsbD i
      = (if i = 0 then w.agentRenew else if i = 1 then w.idleLimit.isSome else if i = 2 then w.walk.isSome
          else if i = 3 then (w.walk.map Walk.pair) == some .b
          else if i = 4 then (w.walk.map Walk.commitAtRestart).getD false else false) := by
  have bits := fun walk pairB commit =>
    flagByte_getLsbD w.agentRenew w.idleLimit.isSome walk pairB commit ⟨i, h⟩
  simp only [Fin.ext_iff] at bits
  rcases hw : w.walk with _ | k
  · simpa [Window.block, hw] using bits false false false
  · have := bits true (k.pair == .b) k.commitAtRestart
    simpa [Window.block, hw, ← apply_ite] using this

/-- A byte holds a number below 256. -/
theorem toNat_ofNat_of_le {w n m : Nat} (h : n ≤ m) (lt : m < 2 ^ w) : (BitVec.ofNat w n).toNat = n := by
  rw [BitVec.toNat_ofNat, Nat.mod_eq_of_lt (lt_of_le_of_lt h lt)]

/-- The byte form of a record in its ranges loses no field (R4 to R9, 12.3). -/
theorem Window.block_of_inRange {w : Window} (h : w.InRange) :
    w.block.base.toNat = w.base ∧ w.block.granule.toNat = w.granule ∧ w.block.span.toNat = w.span
      ∧ w.block.claimLimit.toNat = w.claimLimit ∧ w.block.holdLimit.toNat = w.holdLimit
      ∧ w.block.leaseReload.toNat = w.leaseReload ∧ w.block.idleLimit.toNat = w.idleLimit.getD 0
      ∧ w.block.walkStart.toNat = (w.walk.map Walk.start).getD 0
      ∧ w.block.stride.toNat = (w.walk.map Walk.stride).getD 0
      ∧ w.block.stepLimit.toNat = (w.walk.map Walk.stepLimit).getD 0 := by
  obtain ⟨⟨_, granule⟩, ⟨_, span⟩, _, base, _, ⟨_, claims⟩, hold, ⟨_, reload⟩, _, _, _, _, idle, _, walk, _⟩ := h
  refine ⟨toNat_ofNat_of_le (by omega : w.base ≤ 2 ^ 36) (by decide), toNat_ofNat_of_le granule (by decide),
    toNat_ofNat_of_le span (by decide), toNat_ofNat_of_le claims (by decide), toNat_ofNat_of_le hold (by decide),
    toNat_ofNat_of_le reload (by decide), ?_, ?_⟩
  · rcases limit : w.idleLimit with _ | n
    · simp [Window.block, limit]
    · have := (idle n limit).2
      simp [Window.block, limit]
      omega
  · rcases hk : w.walk with _ | k
    · simp [Window.block, hk]
    · obtain ⟨_, _, _, _, _, _, _⟩ := walk k hk
      simp [Window.block, hk]
      omega

theorem Window.block_rights_digit (w : Window) (c : ClassId) :
    w.block.rights.toNat / 4 ^ c.val % 4 = (w.rights[c]).code := by
  have e : w.block.rights.toNat = rightsField w.rights := by
    simp only [Window.block, BitVec.toNat_ofNat]
    exact Nat.mod_eq_of_lt (rightsField_lt w.rights)
  rw [e, rightsField_digit]

/-! #### The queries (R19, R118, R135, R161) -/

theorem exec_agentQuery_done {s : State} {agent : Byte} {a : AgentId} (due : s.commandDue (.agentQuery agent) = true)
    (ha : agentOf agent = some a) :
    exec (.agentQuery agent) s
      = .next (s.portGranted.answered 0x11 none ((s.agent a).body ++ [BitVec.ofNat 8 (s.endedCount a)])) :=
  takeCommand_done due rfl (by simp [agentQueryReply, ha]; rfl)

theorem exec_agentQuery_badAgent {s : State} {agent : Byte} (due : s.commandDue (.agentQuery agent) = true)
    (h : 31 < agent.toNat) :
    exec (.agentQuery agent) s = .next (s.portGranted.answered 0x11 (some .badAgent) []) :=
  takeCommand_refused due rfl (by simp [agentQueryReply, agentOf_eq_none.mpr h])

theorem exec_claimQuery_done {s : State} {entry : Byte} {i : EntryId} (due : s.commandDue (.claimQuery entry) = true)
    (hi : entryOf entry = some i) :
    exec (.claimQuery entry) s
      = .next (s.portGranted.answered 0x38 none
          (if (s.entry i).state = .free then Entry.free.body else (s.entry i).body)) :=
  takeCommand_done due rfl (by simp [claimQueryReply, hi]; rfl)

theorem exec_claimQuery_badEntry {s : State} {entry : Byte} (due : s.commandDue (.claimQuery entry) = true)
    (h : 47 < entry.toNat) :
    exec (.claimQuery entry) s = .next (s.portGranted.answered 0x38 (some .badEntry) []) :=
  takeCommand_refused due rfl (by simp [claimQueryReply, entryOf_eq_none.mpr h])

theorem exec_windowQuery_done {s : State} {slot : Byte} {k : SlotId} (due : s.commandDue (.windowQuery slot) = true)
    (hk : slotOf slot = some k) :
    exec (.windowQuery slot) s = .next (s.portGranted.answered 0x22 none (s.queryBody k)) :=
  takeCommand_done due rfl (by rw [windowQueryReply, State.withSlot_some hk]; rfl)

theorem exec_windowQuery_badSlot {s : State} {slot : Byte} (due : s.commandDue (.windowQuery slot) = true)
    (h : 63 < slot.toNat) :
    exec (.windowQuery slot) s = .next (s.portGranted.answered 0x22 (some .badSlot) []) :=
  takeCommand_refused due rfl (by rw [windowQueryReply, State.withSlot_none (slotOf_eq_none.mpr h)]; rfl)

/-- Settles O11: each query's body is the record's bytes, and a record in its ranges is spelled by its field block. -/
theorem queriesReport : Obligations.QueriesReport := by
  refine ⟨⟨fun s agent due => ⟨fun a ha => exec_agentQuery_done due ha, exec_agentQuery_badAgent due⟩,
    fun s entry due => ⟨fun i hi live => ?_, fun i hi free => ?_, exec_claimQuery_badEntry due⟩⟩,
    fun s due => takeCommand_done due rfl rfl,
    fun s slot due => ⟨fun k hk live => ?_, fun k hk free => ?_, exec_windowQuery_badSlot due⟩, fun w h => ?_⟩
  · rw [exec_claimQuery_done due hi, if_neg live]
    rfl
  · rw [exec_claimQuery_done due hi, if_pos free]
    rfl
  · rw [exec_windowQuery_done due hk]
    simp only [State.queryBody, if_neg live]
    rfl
  · rw [exec_windowQuery_done due hk]
    simp only [State.queryBody, free]
    rfl
  · obtain ⟨base, granule, span, claims, hold, reload, idle, start, stride, limit⟩ := w.block_of_inRange h
    exact ⟨base, granule, span, rfl, w.block_rights_digit, rfl, claims, hold, rfl, reload, rfl, idle,
      fun i hi => w.block_flags_getLsbD hi, start, stride, limit⟩

end Sys2Proof.Machine

/-! ### ACTIVATE, DISARM and FREEZE -/

namespace Sys2Proof.Machine

/-! #### Members and units -/

theorem Window.isMember_iff {w : Window} : w.isMember = true ↔ w.state ≠ .free ∧ w.role = .member := by
  simp [Window.isMember]

theorem Window.isHead_iff {w : Window} : w.isHead = true ↔ w.state ≠ .free ∧ w.role = .head := by
  simp [Window.isHead]

theorem Window.isMember_of_role {w : Window} (h : w.role ≠ .member) : w.isMember = false := by
  simp [Window.isMember, h]

theorem Window.inService_iff {w : Window} : w.inService = true ↔ w.state = .opened ∨ w.state = .frozen := by
  simp [Window.inService]

/-- A unit command answers with the named slot and the state its own window has entered (12.3). -/
theorem State.slotState_modifyUnit (s : State) (k : SlotId) (f : Window → Window) :
    (s.modifyWindows (s.unitSlots k) f).slotState k = [BitVec.ofNat 8 k.val, (f (s.window k)).state.code] := by
  rw [State.slotState, State.window_modifyWindows_mem _ _ _ _ (s.unitSlots_nodup k) (s.mem_unitSlots_self k)]

/-! #### ACTIVATE (R20, R84) -/

theorem exec_activate_done {s : State} {slot : Byte} {k : SlotId} (due : s.commandDue (.activate slot) = true)
    (hk : slotOf slot = some k) (staged : (s.window k).state = .staged) (role : (s.window k).role ≠ .member) :
    let f := Window.activate (s.window k).leaseMode
    exec (.activate slot) s
      = .next ((s.portGranted.modifyWindows (s.unitSlots k) f).answered 0x23 none
          [slot, (f (s.window k)).state.code]) := by
  refine takeCommand_done due rfl ?_
  have member := Window.isMember_of_role role
  have state := s.portGranted.slotState_modifyUnit k (Window.activate (s.window k).leaseMode)
  rw [State.portGranted_unitSlots, slotOf_byte hk] at state
  rw [activateReply, State.withSlot_some hk]
  simp [member, staged, State.activateUnit, state]

/-- Settles O22: the record that each lease mode leaves is the placed one with the mode's own fields. -/
theorem activateStartsUnit : Obligations.ActivateStartsUnit := by
  intro s slot k due hk staged role placed answer
  have done := exec_activate_done due hk staged role
  refine ⟨fun mode => ?_, fun mode => ?_, fun mode => ?_⟩
  all_goals
    simp only [mode] at done
    rw [done]
    congr 2
    · congr 1
      funext w
      cases walk : w.walk <;> simp [Window.activate, placed, walk]

/-! #### DISARM and FREEZE (R21, R22, R85, R86) -/

theorem exec_disarm_done {s : State} {slot : Byte} {k : SlotId} (due : s.commandDue (.disarm slot) = true)
    (hk : slotOf slot = some k) (armed : (s.window k).state = .armed) (role : (s.window k).role ≠ .member) :
    exec (.disarm slot) s
      = .next ((s.portGranted.modifyWindows (s.unitSlots k) fun w => { w with state := .staged }).answered 0x24 none
          [slot, 1]) := by
  refine takeCommand_done due rfl ?_
  have member := Window.isMember_of_role role
  have state := s.portGranted.slotState_modifyUnit k fun w => { w with state := .staged }
  rw [State.portGranted_unitSlots, slotOf_byte hk] at state
  rw [disarmReply, State.withSlot_some hk]
  simp [member, armed, state, WState.code]

theorem Window.freeze_state {w : Window} (h : w.state = .opened ∨ w.state = .frozen) : w.freeze.state = .frozen := by
  rcases h with h | h <;> simp [Window.freeze, h]

theorem exec_freeze_done {s : State} {slot : Byte} {k : SlotId} (due : s.commandDue (.freeze slot) = true)
    (hk : slotOf slot = some k) (service : (s.window k).state = .opened ∨ (s.window k).state = .frozen)
    (role : (s.window k).role ≠ .member) :
    exec (.freeze slot) s
      = .next ((s.portGranted.modifyWindows (s.unitSlots k) Window.freeze).answered 0x25 none [slot, 4]) := by
  refine takeCommand_done due rfl ?_
  have member := Window.isMember_of_role role
  have state := s.portGranted.slotState_modifyUnit k Window.freeze
  rw [State.portGranted_unitSlots, slotOf_byte hk, State.portGranted_window, Window.freeze_state service] at state
  rw [freezeReply, State.withSlot_some hk]
  simp [member, Window.inService_iff.mpr service, State.freezeUnit, state, WState.code]

/-- Settles O23: each command is taken, and changes every slot of the unit. -/
theorem disarmAndFreezeActOnUnit : Obligations.DisarmAndFreezeActOnUnit := fun _ _ _ hk role =>
  ⟨fun due armed => exec_disarm_done due hk armed role, fun due service => exec_freeze_done due hk service role⟩

end Sys2Proof.Machine

/-! ### THAW, and what a grant pass keeps -/

namespace Sys2Proof.Machine

/-! #### Which entries a grant pass changes (R103, R105) -/

/-- The head of a queue is a WAITING entry that names the slot. -/
theorem State.queueHead_some {s : State} {k : SlotId} {i : EntryId} (h : s.queueHead k = some i) :
    (s.entry i).state = .waiting ∧ (s.entry i).slot = k := by
  have := List.find?_some h
  simp at this
  exact this.1

/-- Granting an entry from a queue changes only WAITING entries of its own slot. -/
theorem State.grantEntry_entry_kept {s : State} {i j : EntryId} (waits : (s.entry i).state = .waiting)
    (h : ¬ ((s.entry j).state = .waiting ∧ (s.entry j).slot = (s.entry i).slot)) :
    (s.grantEntry i).entry j = s.entry j := by
  have ne : i ≠ j := fun e => h (e ▸ ⟨waits, rfl⟩)
  rw [State.grantEntry, State.entry_putEntry, if_neg ne, State.closeQueue, State.entry_mapEntries, if_neg]
  exact fun all => h ⟨all.1, all.2.1⟩

/-- A grant pass changes only WAITING entries of its slot. -/
theorem State.passLoop_entry_kept {k : SlotId} {j : EntryId} (fuel : Nat) (s : State)
    (h : ¬ ((s.entry j).state = .waiting ∧ (s.entry j).slot = k)) :
    (State.passLoop k fuel s).entry j = s.entry j := by
  induction fuel generalizing s with
  | zero => rfl
  | succ n ih =>
    unfold State.passLoop
    split
    · rfl
    · rename_i i head
      obtain ⟨waits, rfl⟩ := State.queueHead_some head
      have kept := State.grantEntry_entry_kept waits h
      split
      · split
        · exact kept
        · rfl
      · split
        · rw [ih _ (by rwa [kept]), kept]
        · rfl

theorem State.grantPass_entry_kept {s : State} {k : SlotId} {j : EntryId}
    (h : ¬ ((s.entry j).state = .waiting ∧ (s.entry j).slot = k)) : (s.grantPass k).entry j = s.entry j := by
  unfold State.grantPass
  split
  · exact State.passLoop_entry_kept 48 s h
  · rfl

/-! #### The frame of a thaw -/

/-- Only windows, gates and entries may differ between the two states. -/
def State.SameBesidesTables (s t : State) : Prop :=
  t = { s with windows := t.windows, gates := t.gates, entries := t.entries }

theorem State.SameBesidesTables.trans {s t u : State} (h : s.SameBesidesTables t) (h' : t.SameBesidesTables u) :
    s.SameBesidesTables u :=
  Eq.trans h' (congrArg (fun x : State => { x with windows := u.windows, gates := u.gates, entries := u.entries }) h)

theorem State.grantPass_sameBesidesTables (s : State) (k : SlotId) : s.SameBesidesTables (s.grantPass k) :=
  State.grantPass_keeps k (fun _ _ h => State.SameBesidesTables.trans h rfl) s rfl

theorem State.thawSlot_sameBesidesTables (s : State) (k : SlotId) : s.SameBesidesTables (s.thawSlot k) := by
  unfold State.thawSlot
  split
  · exact State.SameBesidesTables.trans (t := s.modifyWindow k Window.thaw) rfl
      (State.grantPass_sameBesidesTables _ k)
  · rfl

/-! #### THAW slot by slot (R23, R87) -/

/-- A FROZEN window returns to OPEN, any other is left as it is. -/
def Window.thawed (w : Window) : Window := if w.state = .frozen then w.thaw else w

/-- A THAW of one slot changes the window of that slot and no other. -/
theorem State.window_thawSlot (s : State) (k j : SlotId) :
    (s.thawSlot k).window j = if k = j then (s.window j).thawed else s.window j := by
  unfold State.thawSlot Window.thawed
  split
  · rw [State.grantPass_window, State.window_modifyWindow]
    split <;> simp_all
  · split <;> simp_all

/-- A thaw leaves no window FROZEN, so a second one changes nothing. -/
theorem Window.thawed_thawed (w : Window) : w.thawed.thawed = w.thawed := by
  unfold Window.thawed
  split <;> simp_all [Window.thaw]

/-- A THAW of several slots thaws the window of each. -/
theorem State.window_foldl_thawSlot (ks : List SlotId) (s : State) (j : SlotId) :
    (ks.foldl State.thawSlot s).window j = if j ∈ ks then (s.window j).thawed else s.window j := by
  induction ks generalizing s with
  | nil => simp
  | cons k ks ih =>
    rw [List.foldl_cons, ih, State.window_thawSlot]
    by_cases e : k = j
    · subst e
      simp [Window.thawed_thawed]
    · simp [e, Ne.symm e]

theorem State.foldl_thawSlot_sameBesidesTables (ks : List SlotId) (s : State) :
    s.SameBesidesTables (ks.foldl State.thawSlot s) := by
  induction ks generalizing s with
  | nil => rfl
  | cons k ks ih => exact (s.thawSlot_sameBesidesTables k).trans (ih _)

/-- A THAW of several slots changes only the WAITING entries of those that are FROZEN. -/
theorem State.entry_foldl_thawSlot {i : EntryId} (ks : List SlotId) (s : State)
    (h : ¬ ((s.entry i).state = .waiting ∧ (s.entry i).slot ∈ ks ∧ (s.window (s.entry i).slot).state = .frozen)) :
    (ks.foldl State.thawSlot s).entry i = s.entry i := by
  induction ks generalizing s with
  | nil => rfl
  | cons k ks ih =>
    have kept : (s.thawSlot k).entry i = s.entry i := by
      unfold State.thawSlot
      split
      · rename_i frozen
        rw [State.grantPass_entry_kept, State.modifyWindow_entry]
        rintro ⟨waits, named⟩
        rw [State.modifyWindow_entry] at waits named
        subst named
        exact h ⟨waits, List.mem_cons_self, frozen⟩
      · rfl
    rw [List.foldl_cons, ih, kept]
    rw [kept, State.window_thawSlot]
    rintro ⟨waits, mem, frozen⟩
    refine h ⟨waits, List.mem_cons_of_mem _ mem, ?_⟩
    unfold Window.thawed at frozen
    split at frozen
    · split at frozen
      · assumption
      · exact frozen
    · exact frozen

theorem Window.thawed_state {w : Window} (h : w.state = .opened ∨ w.state = .frozen) : w.thawed.state = .opened := by
  rcases h with h | h <;> simp [Window.thawed, Window.thaw, h]

theorem exec_thaw_done {s : State} {slot : Byte} {k : SlotId} (due : s.commandDue (.thaw slot) = true)
    (hk : slotOf slot = some k) (role : (s.window k).role ≠ .member)
    (service : (s.window k).state = .opened ∨ (s.window k).state = .frozen) :
    exec (.thaw slot) s
      = .next (((s.unitSlots k).foldl State.thawSlot s.portGranted).answered 0x26 none [slot, 3]) := by
  refine takeCommand_done due rfl ?_
  have member := Window.isMember_of_role role
  have state : ((s.unitSlots k).foldl State.thawSlot s.portGranted).slotState k = [slot, 3] := by
    rw [State.slotState, slotOf_byte hk, State.window_foldl_thawSlot, if_pos (s.mem_unitSlots_self k),
      State.portGranted_window, Window.thawed_state service]
    rfl
  rw [thawReply, State.withSlot_some hk]
  simp [member, Window.inService_iff.mpr service, state]

/-- Settles O24, by the lemmas on a THAW of several slots. -/
theorem thawReopensFrozenSlots : Obligations.ThawReopensFrozenSlots := by
  intro s slot k due hk role service
  refine ⟨exec_thaw_done due hk role service, State.foldl_thawSlot_sameBesidesTables _ _, fun j => ?_,
    fun i still => ?_, fun i other => ?_⟩
  · exact (State.window_foldl_thawSlot (s.unitSlots k) s.portGranted j).trans (ite_and ..).symm
  · exact State.entry_foldl_thawSlot (s.unitSlots k) s.portGranted fun all => still all.1
  · exact State.entry_foldl_thawSlot (s.unitSlots k) s.portGranted fun all => other all.2

end Sys2Proof.Machine

/-! ### The refusals of the window and map commands -/

namespace Sys2Proof.Machine

/-! #### The five commands on a whole unit (R20 to R23, R76) -/

/-- ACTIVATE, DISARM, FREEZE, THAW and RENEW are each refused with a reason when they are due. -/
def UnitCommandsRefused (s : State) (slot : Byte) (count : BitVec 16) (why : Reason) : Prop :=
  let refused := fun (c : Instr) (code : Byte) =>
    s.commandDue c = true → exec c s = .next (s.portGranted.answered code (some why) [])
  refused (.activate slot) 0x23 ∧ refused (.disarm slot) 0x24 ∧ refused (.freeze slot) 0x25
    ∧ refused (.thaw slot) 0x26 ∧ refused (.renew slot count) 0x27

theorem unitCommands_badSlot {s : State} {slot : Byte} {count : BitVec 16} (h : slotOf slot = none) :
    UnitCommandsRefused s slot count .badSlot :=
  ⟨fun due => takeCommand_refused due rfl (State.withSlot_none h),
    fun due => takeCommand_refused due rfl (State.withSlot_none h),
    fun due => takeCommand_refused due rfl (State.withSlot_none h),
    fun due => takeCommand_refused due rfl (State.withSlot_none h),
    fun due => takeCommand_refused due rfl (State.withSlot_none h)⟩

theorem unitCommands_group {s : State} {slot : Byte} {count : BitVec 16} {k : SlotId} (hk : slotOf slot = some k)
    (member : (s.window k).isMember = true) : UnitCommandsRefused s slot count .group :=
  ⟨fun due => takeCommand_refused due rfl (by rw [activateReply, State.withSlot_some hk]; exact if_pos member),
    fun due => takeCommand_refused due rfl (by rw [disarmReply, State.withSlot_some hk]; exact if_pos member),
    fun due => takeCommand_refused due rfl (by rw [freezeReply, State.withSlot_some hk]; exact if_pos member),
    fun due => takeCommand_refused due rfl (by rw [thawReply, State.withSlot_some hk]; exact if_pos member),
    fun due => takeCommand_refused due rfl (by rw [renewReply, State.withSlot_some hk]; exact if_pos member)⟩

section

variable {s : State} {slot : Byte} {k : SlotId}

theorem exec_activate_state (due : s.commandDue (.activate slot) = true) (hk : slotOf slot = some k)
    (member : (s.window k).isMember = false) (h : (s.window k).state ≠ .staged) :
    exec (.activate slot) s = .next (s.portGranted.answered 0x23 (some .state) []) :=
  takeCommand_refused due rfl (by rw [activateReply, State.withSlot_some hk]; simp [member, h])

theorem exec_disarm_state (due : s.commandDue (.disarm slot) = true) (hk : slotOf slot = some k)
    (member : (s.window k).isMember = false) (h : (s.window k).state ≠ .armed) :
    exec (.disarm slot) s = .next (s.portGranted.answered 0x24 (some .state) []) :=
  takeCommand_refused due rfl (by rw [disarmReply, State.withSlot_some hk]; simp [member, h])

theorem exec_freeze_state (due : s.commandDue (.freeze slot) = true) (hk : slotOf slot = some k)
    (member : (s.window k).isMember = false) (h : (s.window k).inService = false) :
    exec (.freeze slot) s = .next (s.portGranted.answered 0x25 (some .state) []) :=
  takeCommand_refused due rfl (by rw [freezeReply, State.withSlot_some hk]; simp [member, h])

theorem exec_thaw_state (due : s.commandDue (.thaw slot) = true) (hk : slotOf slot = some k)
    (member : (s.window k).isMember = false) (h : (s.window k).inService = false) :
    exec (.thaw slot) s = .next (s.portGranted.answered 0x26 (some .state) []) :=
  takeCommand_refused due rfl (by rw [thawReply, State.withSlot_some hk]; simp [member, h])

theorem exec_renew_state {count : BitVec 16} (due : s.commandDue (.renew slot count) = true) (hk : slotOf slot = some k)
    (member : (s.window k).isMember = false) (h : (s.window k).inService = false) :
    exec (.renew slot count) s = .next (s.portGranted.answered 0x27 (some .state) []) :=
  takeCommand_refused due rfl (by rw [renewReply, State.withSlot_some hk]; simp [member, h])

theorem exec_renew_noLease {count : BitVec 16} (due : s.commandDue (.renew slot count) = true)
    (hk : slotOf slot = some k) (member : (s.window k).isMember = false) (service : (s.window k).inService = true)
    (h : (s.window k).leaseMode = .none) :
    exec (.renew slot count) s = .next (s.portGranted.answered 0x27 (some .noLease) []) :=
  takeCommand_refused due rfl (by rw [renewReply, State.withSlot_some hk]; simp [member, service, h])

/-! #### RETIRE (R92, R121) -/

theorem exec_retire_badSlot {force : Byte} (due : s.commandDue (.retire slot force) = true) (h : slotOf slot = none) :
    exec (.retire slot force) s = .next (s.portGranted.answered 0x28 (some .badSlot) []) :=
  takeCommand_refused due rfl (State.withSlot_none h)

theorem exec_retire_free {force : Byte} (due : s.commandDue (.retire slot force) = true) (hk : slotOf slot = some k)
    (h : (s.window k).state = .free) :
    exec (.retire slot force) s = .next (s.portGranted.answered 0x28 (some .state) []) :=
  takeCommand_refused due rfl (by rw [retireReply, State.withSlot_some hk]; simp [h])

theorem exec_retire_draining {force : Byte} (due : s.commandDue (.retire slot force) = true)
    (hk : slotOf slot = some k) (member : (s.window k).isMember = false) (h : (s.window k).state = .draining)
    (unforced : force.getLsbD 0 = false) :
    exec (.retire slot force) s = .next (s.portGranted.answered 0x28 (some .state) []) :=
  takeCommand_refused due rfl (by
    rw [retireReply, State.withSlot_some hk]
    simp only [State.portGranted_window, h, member, unforced]
    simp)

/-- Only the last member of a STAGED group is its tail (R92). -/
theorem State.isStagedTail_eq_false
    (h : (s.window (s.owner k)).state ≠ .staged ∨ ∃ j : SlotId, j.val = k.val + 1 ∧ (s.window j).isMember = true) :
    s.isStagedTail k = false := by
  rcases h with h | ⟨j, next, member⟩
  · simp [State.isStagedTail, h]
  · have lt : k.val + 1 < 64 := next ▸ j.isLt
    have e : (⟨k.val + 1, lt⟩ : SlotId) = j := Fin.ext next.symm
    simp [State.isStagedTail, lt, e, member]

theorem exec_retire_group {force : Byte} (due : s.commandDue (.retire slot force) = true) (hk : slotOf slot = some k)
    (member : (s.window k).isMember = true)
    (h : (s.window (s.owner k)).state ≠ .staged ∨ ∃ j : SlotId, j.val = k.val + 1 ∧ (s.window j).isMember = true) :
    exec (.retire slot force) s = .next (s.portGranted.answered 0x28 (some .group) []) := by
  have live : (s.window k).state ≠ .free := (Window.isMember_iff.mp member).1
  have tail : s.portGranted.isStagedTail k = false :=
    State.isStagedTail_eq_false (by simpa only [State.portGranted_owner, State.portGranted_window] using h)
  exact takeCommand_refused due rfl (by rw [retireReply, State.withSlot_some hk]; simp [live, member, tail])

/-! #### The map commands (R28, R30, R31) -/

theorem exec_mapWrite_badSlot {index : Byte} {word : Word32} (due : s.commandDue (.mapWrite slot index word) = true)
    (h : slotOf slot = none) :
    exec (.mapWrite slot index word) s = .next (s.portGranted.answered 0x30 (some .badSlot) []) :=
  takeCommand_refused due rfl (State.withSlot_none h)

theorem exec_mapRead_badSlot {index selector : Byte} (due : s.commandDue (.mapRead slot index selector) = true)
    (h : slotOf slot = none) :
    exec (.mapRead slot index selector) s = .next (s.portGranted.answered 0x31 (some .badSlot) []) :=
  takeCommand_refused due rfl (State.withSlot_none h)

theorem exec_mapCommit_badSlot (due : s.commandDue (.mapCommit slot) = true) (h : slotOf slot = none) :
    exec (.mapCommit slot) s = .next (s.portGranted.answered 0x32 (some .badSlot) []) :=
  takeCommand_refused due rfl (State.withSlot_none h)

theorem exec_mapWrite_badField {index : Byte} {word : Word32} (due : s.commandDue (.mapWrite slot index word) = true)
    (hk : slotOf slot = some k) (h : 7 < index.toNat) :
    exec (.mapWrite slot index word) s = .next (s.portGranted.answered 0x30 (some .badField) []) :=
  takeCommand_refused due rfl (by rw [mapWriteReply, State.withSlot_some hk]; simp [h])

theorem exec_mapRead_badField {index selector : Byte} (due : s.commandDue (.mapRead slot index selector) = true)
    (hk : slotOf slot = some k) (h : 7 < index.toNat ∨ 1 < selector.toNat) :
    exec (.mapRead slot index selector) s = .next (s.portGranted.answered 0x31 (some .badField) []) :=
  takeCommand_refused due rfl (by rw [mapReadReply, State.withSlot_some hk]; simp [h])

theorem exec_mapWrite_state {index : Byte} {word : Word32} (due : s.commandDue (.mapWrite slot index word) = true)
    (hk : slotOf slot = some k) (fits : index.toNat ≤ 7)
    (h : (s.window k).state = .free ∨ (s.window k).state = .armed ∨ (s.window k).state = .draining) :
    exec (.mapWrite slot index word) s = .next (s.portGranted.answered 0x30 (some .state) []) :=
  takeCommand_refused due rfl (by
    rw [mapWriteReply, State.withSlot_some hk]
    rcases h with h | h | h <;> simp [h, Nat.not_lt.mpr fits])

theorem exec_mapCommit_state (due : s.commandDue (.mapCommit slot) = true) (hk : slotOf slot = some k)
    (h : (s.window k).inService = false) :
    exec (.mapCommit slot) s = .next (s.portGranted.answered 0x32 (some .state) []) :=
  takeCommand_refused due rfl (by
    rw [mapCommitReply, State.withSlot_some hk]
    exact if_neg fun service => absurd (Window.inService_iff.mpr service) (h.symm ▸ Bool.false_ne_true))

end

theorem Window.inService_eq_false {w : Window} (opened : w.state ≠ .opened) (frozen : w.state ≠ .frozen) :
    w.inService = false := by
  simp [Window.inService, opened, frozen]

/-- Settles O26: the refusals of each command, gathered. -/
theorem windowCommandsRefused : Obligations.WindowCommandsRefused := by
  refine ⟨fun s slot force count => ⟨fun h => ?_, fun k hk => ⟨fun member => unitCommands_group hk member,
    fun alone => ⟨fun h due => exec_activate_state due hk alone h, fun h due => exec_disarm_state due hk alone h,
      fun opened frozen => ?_, fun service none due =>
        exec_renew_noLease due hk alone (Window.inService_iff.mpr service) none,
      fun free due => exec_retire_free due hk free,
      fun draining unforced due => exec_retire_draining due hk alone draining unforced⟩,
    fun member h due => exec_retire_group due hk member h⟩⟩,
    fun s slot index selector word => ⟨fun h => ?_, fun h index due => ?_, fun h field due => ?_,
      fun k hk => ⟨fun fits h due => exec_mapWrite_state due hk fits h, fun opened frozen due =>
        exec_mapCommit_state due hk (Window.inService_eq_false opened frozen)⟩⟩⟩
  · have none := slotOf_eq_none.mpr h
    exact ⟨unitCommands_badSlot none, fun due => exec_retire_badSlot due none⟩
  · have out := Window.inService_eq_false opened frozen
    exact ⟨fun due => exec_freeze_state due hk alone out, fun due => exec_thaw_state due hk alone out,
      fun due => exec_renew_state due hk alone out⟩
  · have none := slotOf_eq_none.mpr h
    exact ⟨fun due => exec_mapWrite_badSlot due none, fun due => exec_mapRead_badSlot due none,
      fun due => exec_mapCommit_badSlot due none⟩
  · obtain ⟨k, hk⟩ := slotOf_isSome h
    exact exec_mapWrite_badField due hk index
  · obtain ⟨k, hk⟩ := slotOf_isSome h
    exact exec_mapRead_badField due hk field

end Sys2Proof.Machine

/-! ### WINDOW CREATE -/

namespace Sys2Proof.Machine

/-! #### What a loaded field stands for (12.2, 12.3) -/

theorem roleOf_eq_none {b : Byte} : roleOf b = none ↔ 2 < b.toNat := by
  unfold roleOf
  split <;> simp_all
  omega

theorem roleOf_eq_some_member {b : Byte} : roleOf b = some .member ↔ b.toNat = 2 := by
  unfold roleOf
  split <;> simp_all

/-- The codes 0 and 1 name SOLO and HEAD. -/
theorem roleOf_le_one {b : Byte} (h : b.toNat ≤ 1) : ∃ r, roleOf b = some r ∧ r ≠ .member := by
  rcases e : roleOf b with _ | r
  · rw [roleOf_eq_none] at e; omega
  · refine ⟨r, rfl, fun member => ?_⟩
    rw [member, roleOf_eq_some_member] at e
    omega

theorem leaseModeOf_code {b : Byte} (h : b.toNat ≤ 2) : ((leaseModeOf b).getD .none).code = b := by
  have : b = 0 ∨ b = 1 ∨ b = 2 := by bv_omega
  rcases this with rfl | rfl | rfl <;> rfl

theorem leaseModeOf_of_code (m : LeaseMode) : leaseModeOf m.code = some m := by cases m <;> rfl

theorem expiryActionOf_code {b : Byte} (h : b.toNat ≤ 2) : ((expiryActionOf b).getD .retire).code = b := by
  have : b = 0 ∨ b = 1 ∨ b = 2 := by bv_omega
  rcases this with rfl | rfl | rfl <;> rfl

/-- An undefined expiry action is loaded as RETIRE (R12). -/
theorem expiryActionOf_undefined {b : Byte} (h : 2 < b.toNat) : (expiryActionOf b).getD .retire = .retire := by
  rcases e : expiryActionOf b with _ | a
  · rfl
  · have := expiryActionOf_isSome (b := b)
    simp [e] at this
    omega

theorem rightOf_code {n : Nat} (lt : n < 4) (ne : n ≠ 3) : (rightOf n).code = n := by
  have : n = 0 ∨ n = 1 ∨ n = 2 := by omega
  rcases this with rfl | rfl | rfl <;> rfl

/-- An access code of a block whose codes are defined is 0 for OPEN and else 1 for CLAIMED. -/
theorem accessOf_byte {b : Byte} (h : b.toNat ≤ 1) :
    (if b.toNat = 1 then AccessMode.claimed else .openAccess) = if b = 0 then .openAccess else .claimed := by
  have : b = 0 ∨ b = 1 := by bv_omega
  rcases this with rfl | rfl <;> rfl

theorem Window.loadAccess_rights_code {b : FieldBlock} (w : Window) (c : ClassId)
    (h : b.rights.toNat / 4 ^ c.val % 4 ≠ 3) :
    ((w.loadAccess b).rights[c]).code = b.rights.toNat / 4 ^ c.val % 4 := by
  simp only [Window.loadAccess, tabulate_get]
  exact rightOf_code (Nat.mod_lt _ (by decide)) h

theorem fullMap_getLsbD {n i : Nat} (h : i < 256) : (fullMap n).getLsbD i = decide (i < n) := by
  rw [fullMap, BitVec.getLsbD_ofNat, Nat.testBit_two_pow_sub_one]
  simp [h]

/-! #### The group checks of a MEMBER (R82) -/

theorem Window.grouped_iff {w : Window} :
    (w.isMember || w.isHead) = true ↔ w.state ≠ .free ∧ w.role ≠ .solo := by
  cases role : w.role <;> simp [Window.isMember, Window.isHead, role]

theorem State.memberCheck_bottom {s : State} {k : SlotId} (h : k.val = 0) : s.memberCheck k = some .group := by
  simp [State.memberCheck, h]

/-- The checks of a MEMBER are made against the slot below it. -/
theorem State.memberCheck_above {s : State} {j k : SlotId} (h : j.val + 1 = k.val) :
    s.memberCheck k
      = if ¬ ((s.window j).state ≠ .free ∧ (s.window j).role ≠ .solo) then some .group
        else if (s.window (s.owner j)).state ≠ .staged then some .state
        else if k.val = (s.owner j).val + 8 then some .group else none := by
  have ne : k.val ≠ 0 := by omega
  have below : Fin.ofNat 64 (k.val - 1) = j := Fin.ext (by simp; omega)
  unfold State.memberCheck
  rw [if_neg ne]
  simp only [below, ← Window.grouped_iff, Bool.not_eq_true, Bool.not_eq_true', h, Config.maxGroupSlots]

theorem State.portGranted_memberCheck (s : State) (k : SlotId) : s.portGranted.memberCheck k = s.memberCheck k := by
  simp [State.memberCheck]

/-! #### The checks in their order (R13) -/

theorem State.portGranted_createCheck (s : State) (slot role : Byte) (b : FieldBlock) :
    s.portGranted.createCheck slot role b = s.createCheck slot role b := by
  simp [State.createCheck, State.portGranted_memberCheck]

section

variable {s : State} {slot role : Byte} {b : FieldBlock} {k : SlotId}

theorem State.createCheck_badSlot (h : slotOf slot = none) : s.createCheck slot role b = .error .badSlot := by
  simp [State.createCheck, h]

theorem State.createCheck_badRole (hk : slotOf slot = some k) (h : roleOf role = none) :
    s.createCheck slot role b = .error .badField := by
  simp [State.createCheck, hk, h]

theorem State.createCheck_slotBusy {r : Role} (hk : slotOf slot = some k) (hr : roleOf role = some r)
    (h : (s.window k).state ≠ .free) : s.createCheck slot role b = .error .slotBusy := by
  simp [State.createCheck, hk, hr, h]

theorem State.createCheck_memberCheck {why : Reason} (hk : slotOf slot = some k) (hr : roleOf role = some .member)
    (free : (s.window k).state = .free) (h : s.memberCheck k = some why) :
    s.createCheck slot role b = .error why := by
  simp [State.createCheck, hk, hr, free, h]

/-- A MEMBER carries no lease of its own (R82). -/
theorem State.createCheck_memberLease (hk : slotOf slot = some k) (hr : roleOf role = some .member)
    (free : (s.window k).state = .free) (fits : s.memberCheck k = none) (h : b.leaseMode = 1 ∨ b.leaseMode = 2) :
    s.createCheck slot role b = .error .group := by
  have mode : leaseModeOf b.leaseMode = some .timed ∨ leaseModeOf b.leaseMode = some .uses :=
    h.imp (fun e => by rw [e]; rfl) fun e => by rw [e]; rfl
  simp [State.createCheck, hk, hr, free, fits, mode]

/-- A block that passes the group checks of R82 is left to the field checks. -/
def State.GroupFits (s : State) (k : SlotId) (r : Role) (b : FieldBlock) : Prop :=
  r = .member → s.memberCheck k = none ∧ b.leaseMode ≠ 1 ∧ b.leaseMode ≠ 2

theorem State.GroupFits.noMode {s : State} {k : SlotId} {r : Role} {b : FieldBlock} (h : s.GroupFits k r b) :
    ¬ (r = .member ∧ (leaseModeOf b.leaseMode = some .timed ∨ leaseModeOf b.leaseMode = some .uses)) := by
  rintro ⟨member, mode⟩
  obtain ⟨_, timed, uses⟩ := h member
  rw [leaseModeOf_eq_some_timed, leaseModeOf_eq_some_uses] at mode
  bv_omega

theorem State.createCheck_fields {r : Role} {why : Reason} (hk : slotOf slot = some k) (hr : roleOf role = some r)
    (free : (s.window k).state = .free) (fits : s.GroupFits k r b) (fails : b.check = some why) :
    s.createCheck slot role b = .error why := by
  have mode := fits.noMode
  have none : (if r = .member then s.memberCheck k else none) = none := by
    split
    · exact (fits ‹_›).1
    · rfl
  simp [State.createCheck, hk, hr, free, none, mode, fails]

theorem State.createCheck_ok {r : Role} (hk : slotOf slot = some k) (hr : roleOf role = some r)
    (free : (s.window k).state = .free) (fits : s.GroupFits k r b) (passes : b.check = none) :
    s.createCheck slot role b = .ok (k, r) := by
  have mode := fits.noMode
  have none : (if r = .member then s.memberCheck k else none) = none := by
    split
    · exact (fits ‹_›).1
    · rfl
  simp [State.createCheck, hk, hr, free, none, mode, passes]

/-! #### The command -/

theorem exec_windowCreate_refused {why : Reason} (due : s.commandDue (.windowCreate slot role b) = true)
    (h : s.createCheck slot role b = .error why) :
    exec (.windowCreate slot role b) s = .next (s.portGranted.answered 0x20 (some why) []) :=
  takeCommand_refused due rfl (by rw [windowCreateReply, State.portGranted_createCheck, h])

theorem exec_windowCreate_done {r : Role} (due : s.commandDue (.windowCreate slot role b) = true)
    (hk : slotOf slot = some k) (h : s.createCheck slot role b = .ok (k, r)) :
    exec (.windowCreate slot role b) s
      = .next ((s.portGranted.putWindow k (Window.create r b)).answered 0x20 none [slot, WState.staged.code]) :=
  takeCommand_done due rfl (by rw [windowCreateReply, State.portGranted_createCheck, h]; simp [slotOf_byte hk])

end

/-- Settles O16: each clause is one failing check, those before it passed. -/
theorem windowCreateChecksInOrder : Obligations.WindowCreateChecksInOrder := by
  intro s slot role b due refused
  have refuse : ∀ {why}, s.createCheck slot role b = .error why → refused why := exec_windowCreate_refused due
  refine ⟨fun h => refuse (State.createCheck_badSlot (slotOf_eq_none.mpr h)), fun h field => ?_,
    fun k hk field busy => ?_, fun k hk two free alone => ?_, fun k j hk two free next live grouped state => ?_,
    fun k j hk two free next live grouped staged full => ?_, fun k why hk one free fails => ?_,
    fun k j why hk two free next live grouped staged room timed uses fails => ?_⟩
  · obtain ⟨k, hk⟩ := slotOf_isSome h
    exact refuse (State.createCheck_badRole hk (roleOf_eq_none.mpr field))
  · obtain ⟨r, hr⟩ := Option.ne_none_iff_exists'.mp fun none => absurd (roleOf_eq_none.mp none) (Nat.not_lt.mpr field)
    exact refuse (State.createCheck_slotBusy hk hr busy)
  · refine refuse (State.createCheck_memberCheck hk (roleOf_eq_some_member.mpr two) free ?_)
    rcases alone with bottom | ⟨j, next, alone⟩
    · exact State.memberCheck_bottom bottom
    · rw [State.memberCheck_above next, if_pos fun grouped => alone.elim grouped.1 grouped.2]
  · refine refuse (State.createCheck_memberCheck hk (roleOf_eq_some_member.mpr two) free ?_)
    rw [State.memberCheck_above next, if_neg (not_not.mpr ⟨live, grouped⟩), if_pos state]
  · have above := s.memberCheck_above next
    rw [if_neg (not_not.mpr ⟨live, grouped⟩), if_neg (not_not.mpr staged)] at above
    by_cases last : k.val = (s.owner j).val + 8
    · rw [if_pos last] at above
      exact refuse (State.createCheck_memberCheck hk (roleOf_eq_some_member.mpr two) free above)
    · rw [if_neg last] at above
      exact refuse (State.createCheck_memberLease hk (roleOf_eq_some_member.mpr two) free above
        (full.resolve_left last))
  · obtain ⟨r, hr, ne⟩ := roleOf_le_one one
    exact refuse (State.createCheck_fields hk hr free (fun member => absurd member ne) fails)
  · refine refuse (State.createCheck_fields hk (roleOf_eq_some_member.mpr two) free (fun _ => ⟨?_, timed, uses⟩) fails)
    rw [State.memberCheck_above next, if_neg (not_not.mpr ⟨live, grouped⟩), if_neg (not_not.mpr staged), if_neg room]

/-- Settles O17: the check accepts, and the record loaded is read field by field. -/
theorem windowCreateLoadsRecord : Obligations.WindowCreateLoadsRecord := by
  intro s slot role b k r due hk hr free passes member
  have fits : s.GroupFits k r b := by
    intro e
    obtain ⟨mode, j, next, live, grouped, staged, room⟩ := member e
    refine ⟨?_, by rw [mode]; decide, by rw [mode]; decide⟩
    rw [State.memberCheck_above next, if_neg (not_not.mpr ⟨live, grouped⟩), if_neg (not_not.mpr staged), if_neg room]
  have ok := State.createCheck_ok hk hr free fits passes
  obtain ⟨⟨_, _, _, access, rights, _, _, lease, _⟩, _, _⟩ := FieldBlock.check_eq_none.mp passes
  have mode : b.leaseMode.toNat ≤ 2 := by omega
  refine ⟨Window.create r b, exec_windowCreate_done due hk ok, rfl, rfl, rfl, rfl, rfl, accessOf_byte access,
    fun c => Window.loadAccess_rights_code Window.free c (rights c), rfl, rfl, rfl, rfl, ?_, fun h => ?_, fun h => ?_,
    fun h => expiryActionOf_code h, fun h => expiryActionOf_undefined h, rfl, rfl, rfl, rfl, rfl, rfl, rfl, rfl, rfl,
    fun i hi => fullMap_getLsbD hi, rfl⟩
  · by_cases e : r = .member
    · simp [Window.create, e, (member e).1, LeaseMode.code]
    · simpa [Window.create, e] using leaseModeOf_code mode
  · exact if_neg (by omega)
  · exact if_pos h

end Sys2Proof.Machine

/-! ### WINDOW MODIFY -/

namespace Sys2Proof.Machine

/-! #### The select set and the merged block (R12, R16) -/

theorem selectionOf_isEmpty : ∀ select : Byte, select.toNat ≤ 63 →
    (selectionOf select).isEmpty = decide (select = 0) := by
  decide

/-- The reserved flag bits of a byte are 0 (R172). -/
theorem flags_lt_iff : ∀ flags : Byte,
    flags.toNat < 32 ↔ flags.getLsbD 5 = false ∧ flags.getLsbD 6 = false ∧ flags.getLsbD 7 = false := by
  decide

theorem flags_high {flags : Byte} (h : flags.toNat < 32) {i : Nat} (le : 5 ≤ i) : flags.getLsbD i = false :=
  Nat.testBit_lt_two_pow (lt_of_lt_of_le h (Nat.pow_le_pow_right (n := 2) (by decide) le))

/-- Each flag bit of the merged block goes with its group; bits 7:5 belong to none (assumption 9). -/
theorem FieldBlock.merge_flags_getLsbD (x : Selection) (carried kept : FieldBlock) {i : Nat} (h : i < 8) :
    (FieldBlock.merge x carried kept).flags.getLsbD i
      = (if i = 0 then (if x.claims then carried else kept) else if i = 1 then (if x.idle then carried else kept)
          else if i ≤ 4 then (if x.walk then carried else kept)
          else if x.isEmpty then kept else carried).flags.getLsbD i := by
  have : i = 0 ∨ i = 1 ∨ i = 2 ∨ i = 3 ∨ i = 4 ∨ i = 5 ∨ i = 6 ∨ i = 7 := by omega
  rcases this with rfl | rfl | rfl | rfl | rfl | rfl | rfl | rfl <;> simp [FieldBlock.merge]

/-- The block that the statements call merged is the one the checks are made on. -/
theorem FieldBlock.merge_eq {select : Byte} {carried kept merged : FieldBlock} (small : select.toNat ≤ 63)
    (h : FieldBlock.MergesTo select carried kept merged) :
    FieldBlock.merge (selectionOf select) carried kept = merged := by
  obtain ⟨fields, flags⟩ := h
  have same : (FieldBlock.merge (selectionOf select) carried kept).flags = merged.flags := by
    refine BitVec.eq_of_getLsbD_eq fun i hi => ?_
    rw [FieldBlock.merge_flags_getLsbD _ _ _ hi, flags i hi, selectionOf_isEmpty select small]
    by_cases none : select = 0 <;> simp [selectionOf, none]
  rw [fields, ← same]
  rfl

/-- A record in its ranges passes the field checks in its byte form. -/
theorem Window.block_check {w : Window} (h : w.InRange) : w.block.check = none := by
  obtain ⟨base, granule, span, claims, _, reload, idle, start, stride, limit⟩ := w.block_of_inRange h
  have bit := fun i hi => w.block_flags_getLsbD (i := i) hi
  obtain ⟨granuleRange, spanRange, on, fits, mask, claimRange, _, reloadRange, _, _, _, _, idleRange, _, walkRange,
    _⟩ := h
  have small : w.span * 2 ^ w.granule ≤ 2 ^ 32 := calc
    w.span * 2 ^ w.granule ≤ 256 * 2 ^ 24 :=
      Nat.mul_le_mul spanRange.2 (Nat.pow_le_pow_right (by decide) granuleRange.2)
    _ = 2 ^ 32 := by decide
  have positive : 0 < w.span * 2 ^ w.granule := Nat.mul_pos spanRange.1 (Nat.two_pow_pos _)
  have walks : w.block.flags.getLsbD 2 = true →
      ∃ k, w.walk = some k ∧ k.InRange w ∧ w.block.walkStart.toNat = k.start ∧ w.block.stride.toNat = k.stride
        ∧ w.block.stepLimit.toNat = k.stepLimit := by
    intro present
    rw [bit 2 (by decide)] at present
    obtain ⟨k, hk⟩ := Option.isSome_iff_exists.mp (by simpa using present : w.walk.isSome = true)
    simp only [hk, Option.map_some, Option.getD_some] at start stride limit
    exact ⟨k, hk, walkRange k hk, start, stride, limit⟩
  refine FieldBlock.check_eq_none.mpr ⟨⟨?_, ?_, ?_, ?_, fun c => ?_, mask, ?_, ?_, fun present => ?_, fun present => ?_,
    (flags_lt_iff _).mpr ⟨?_, ?_, ?_⟩⟩, ⟨?_, fun present => ?_⟩, ?_, ?_, fun present => ?_⟩
  · rwa [granule]
  · rwa [span]
  · rw [base]; omega
  · cases access : w.access <;> simp [Window.block, access, AccessMode.code]
  · rw [w.block_rights_digit]
    exact ne_of_lt (Right.code_lt _)
  · rwa [claims]
  · cases mode : w.leaseMode <;> cases action : w.expiryAction <;>
      simp [reload, reloadRange.1] <;> simp [Window.block, mode, action, LeaseMode.code, ExpiryAction.code]
  · rw [bit 1 (by decide)] at present
    obtain ⟨n, hn⟩ := Option.isSome_iff_exists.mp (by simpa using present : w.idleLimit.isSome = true)
    rw [idle, hn]
    exact (idleRange n hn).1
  · obtain ⟨k, _, ⟨_, ends, wide, narrow, some, few, _⟩, start, stride, limit⟩ := walks present
    rw [start, granule, stride, limit]
    exact ⟨by omega, wide, narrow, some, few⟩
  · simpa using bit 5 (by decide)
  · simpa using bit 6 (by decide)
  · simpa using bit 7 (by decide)
  · rwa [base, granule]
  · obtain ⟨k, _, range, start, _⟩ := walks present
    rw [start, granule]
    exact range.1
  · rwa [span, granule]
  · rwa [base, span, granule]
  · obtain ⟨k, _, range, start, _⟩ := walks present
    rw [start, span, granule]
    exact range.2.1

/-- In service only the groups ACCESS, CLAIMS, LEASE and IDLE change: where the kept block passes its checks and the
carried groups keep their ranges, the merged block passes them (R12, R16). -/
theorem FieldBlock.merge_check {x : Selection} {carried kept : FieldBlock} (keeps : kept.check = none)
    (geometry : x.geometry = false) (walk : x.walk = false)
    (access : x.access = true →
      carried.access.toNat ≤ 1 ∧ (∀ c : ClassId, carried.rights.toNat / 4 ^ c.val % 4 ≠ 3) ∧ carried.laneMask ≠ 0)
    (claims : x.claims = true → 1 ≤ carried.claimLimit.toNat ∧ carried.claimLimit.toNat ≤ 15)
    (lease : x.lease = true →
      carried.leaseMode.toNat = 0
        ∨ (carried.leaseMode.toNat ≤ 2 ∧ 1 ≤ carried.leaseReload.toNat ∧ carried.expiryAction.toNat ≤ 2))
    (idle : x.idle = true → carried.flags.getLsbD 1 = true → 1 ≤ carried.idleLimit.toNat)
    (reserved : carried.flags.toNat < 32) : (FieldBlock.merge x carried kept).check = none := by
  obtain ⟨⟨granule, span, base, accessK, rightsK, maskK, claimsK, leaseK, idleK, walkK, reservedK⟩, ⟨on, walkOn⟩, small,
    fits, walkFits⟩ := FieldBlock.check_eq_none.mp keeps
  have bit := fun i hi => FieldBlock.merge_flags_getLsbD x carried kept (i := i) hi
  have walks : (FieldBlock.merge x carried kept).flags.getLsbD 2 = kept.flags.getLsbD 2 := by
    simpa [walk] using bit 2 (by decide)
  have high : ∀ i, 5 ≤ i → i < 8 → (FieldBlock.merge x carried kept).flags.getLsbD i = false := by
    intro i le lt
    rw [bit i lt, if_neg (by omega), if_neg (by omega), if_neg (by omega)]
    split
    · exact flags_high reservedK le
    · exact flags_high reserved le
  have base_eq : (FieldBlock.merge x carried kept).base = kept.base := by simp [FieldBlock.merge, geometry]
  have granule_eq : (FieldBlock.merge x carried kept).granule = kept.granule := by simp [FieldBlock.merge, geometry]
  have span_eq : (FieldBlock.merge x carried kept).span = kept.span := by simp [FieldBlock.merge, geometry]
  have start_eq : (FieldBlock.merge x carried kept).walkStart = kept.walkStart := by simp [FieldBlock.merge, walk]
  refine FieldBlock.check_eq_none.mpr ⟨⟨by rwa [granule_eq], by rwa [span_eq], by rwa [base_eq], ?_, ?_, ?_, ?_, ?_, ?_,
    ?_, (flags_lt_iff _).mpr
    ⟨high 5 (by decide) (by decide), high 6 (by decide) (by decide), high 7 (by decide) (by decide)⟩⟩,
    ⟨by rwa [base_eq, granule_eq], by rwa [walks, start_eq, granule_eq]⟩, by rwa [span_eq, granule_eq],
    by rwa [base_eq, span_eq, granule_eq], by rwa [walks, start_eq, span_eq, granule_eq]⟩
  · cases a : x.access <;> simp [FieldBlock.merge, a, accessK, access]
  · cases a : x.access <;> simp [FieldBlock.merge, a, rightsK, access]
  · cases a : x.access
    · simpa [FieldBlock.merge, a] using maskK
    · simpa [FieldBlock.merge, a] using (access a).2.2
  · cases c : x.claims <;> simp [FieldBlock.merge, c, claimsK, claims]
  · cases l : x.lease
    · simpa [FieldBlock.merge, l] using leaseK
    · simpa [FieldBlock.merge, l] using lease l
  · rw [bit 1 (by decide)]
    cases i : x.idle
    · simpa [FieldBlock.merge, i] using idleK
    · simpa [FieldBlock.merge, i] using idle i
  · rw [walks, start_eq, granule_eq]
    simpa [FieldBlock.merge, walk] using walkK

/-! #### The checks in their order (R16) -/

theorem leaseModeOf_eq_some {b : Byte} {m : LeaseMode} : leaseModeOf b = some m ↔ m.code = b := by
  refine ⟨fun h => ?_, fun h => h ▸ leaseModeOf_of_code m⟩
  have le := leaseModeOf_isSome (b := b)
  rw [h] at le
  simpa [h] using leaseModeOf_code (b := b) (by simpa using le)

theorem State.portGranted_modifyCheck (s : State) (k : SlotId) (select : Byte) (b : FieldBlock) :
    s.portGranted.modifyCheck k select b = s.modifyCheck k select b := by
  simp only [State.modifyCheck, State.heldCount, State.portGranted_window, State.portGranted_entry] <;> rfl

section

variable {s : State} {slot select : Byte} {b : FieldBlock} {k : SlotId}

theorem State.modifyCheck_badField (h : 63 < select.toNat) : s.modifyCheck k select b = some .badField := by
  simp only [State.modifyCheck]
  exact if_pos (by omega)

theorem State.modifyCheck_state (small : select.toNat ≤ 63)
    (h : (s.window k).state = .free ∨ (s.window k).state = .armed ∨ (s.window k).state = .draining) :
    s.modifyCheck k select b = some .state := by
  simp only [State.modifyCheck]
  rw [if_neg (by omega), if_pos h]

theorem State.modifyCheck_group (small : select.toNat ≤ 63)
    (state : (s.window k).state = .staged ∨ (s.window k).state = .opened ∨ (s.window k).state = .frozen)
    (member : (s.window k).role = .member) (lease : select.getLsbD 3 = true) :
    s.modifyCheck k select b = some .group := by
  have isMember : (s.window k).isMember = true :=
    Window.isMember_iff.mpr ⟨by rcases state with h | h | h <;> simp [h], member⟩
  simp only [State.modifyCheck]
  rw [if_neg (by omega), if_neg (by rcases state with h | h | h <;> simp [h]), if_pos ⟨isMember, lease⟩]

/-- In service, GEOMETRY and WALK cannot change, nor the lease mode (R16). -/
theorem State.modifyCheck_inService (small : select.toNat ≤ 63)
    (state : (s.window k).state = .opened ∨ (s.window k).state = .frozen)
    (alone : ¬ ((s.window k).role = .member ∧ select.getLsbD 3 = true))
    (h : select.getLsbD 0 = true ∨ select.getLsbD 5 = true
      ∨ (select.getLsbD 3 = true ∧ (s.window k).leaseMode.code ≠ b.leaseMode)) :
    s.modifyCheck k select b = some .state := by
  have apart : ¬ ((s.window k).isMember = true ∧ (selectionOf select).lease = true) :=
    fun both => alone ⟨(Window.isMember_iff.mp both.1).2, both.2⟩
  simp only [State.modifyCheck]
  rw [if_neg (by omega), if_neg (by rcases state with h | h <;> simp [h]), if_neg apart]
  by_cases moves : select.getLsbD 0 = true ∨ select.getLsbD 5 = true
  · rw [if_pos ⟨state, moves⟩]
  · rw [if_neg fun both => moves both.2, if_pos]
    obtain ⟨lease, mode⟩ := (or_assoc.mpr h).resolve_left moves
    exact ⟨state, lease, fun same => mode (leaseModeOf_eq_some.mp same)⟩

/-- A select set that fits the window's state and role is left to the field checks and the claim limit (R16). -/
theorem State.modifyCheck_fits (fits : s.ModifyFits k select b) :
    s.modifyCheck k select b
      = ((FieldBlock.merge (selectionOf select) b (s.window k).block).check).or
          (if select.getLsbD 2 = true ∧ b.claimLimit.toNat < s.heldCount k then some .claimsHeld else none) := by
  obtain ⟨small, state, alone, service⟩ := fits
  have apart : ¬ ((s.window k).isMember = true ∧ (selectionOf select).lease = true) :=
    fun both => alone ⟨(Window.isMember_iff.mp both.1).2, both.2⟩
  have moved : (s.window k).state = .opened ∨ (s.window k).state = .frozen → (s.window k).state ≠ .staged := by
    rintro (h | h) <;> simp [h]
  simp only [State.modifyCheck]
  rw [if_neg (by omega), if_neg (by rcases state with h | h | h <;> simp [h]), if_neg apart, if_neg, if_neg]
  · cases (FieldBlock.merge (selectionOf select) b (s.window k).block).check <;> rfl
  · rintro ⟨open_, lease, mode⟩
    exact mode (leaseModeOf_eq_some.mpr ((service (moved open_)).2.2 lease))
  · rintro ⟨open_, moves⟩
    obtain ⟨geometry, walk, _⟩ := service (moved open_)
    exact moves.elim (fun h => Bool.false_ne_true (geometry.symm.trans h))
      fun h => Bool.false_ne_true (walk.symm.trans h)

/-! #### What an accepted command loads (R17, R18) -/

theorem Window.ite_loadGeometry (p : Bool) (b : FieldBlock) (w : Window) :
    (if p then w.loadGeometry b else w)
      = { w with
          base := if p then b.base.toNat else w.base
          granule := if p then b.granule.toNat else w.granule
          span := if p then b.span.toNat else w.span } := by
  cases p <;> rfl

theorem Window.ite_loadAccess (p : Bool) (b : FieldBlock) (w : Window) :
    (if p then w.loadAccess b else w)
      = { w with
          access := if p then (if b.access.toNat = 1 then .claimed else .openAccess) else w.access
          rights := if p then tabulate 8 fun c => rightOf (b.rightCode c) else w.rights
          laneMask := if p then b.laneMask else w.laneMask } := by
  cases p <;> rfl

theorem Window.ite_loadClaims (p : Bool) (b : FieldBlock) (w : Window) :
    (if p then w.loadClaims b else w)
      = { w with
          claimLimit := if p then b.claimLimit.toNat else w.claimLimit
          holdLimit := if p then b.holdLimit.toNat else w.holdLimit
          agentRenew := if p then b.agentRenew else w.agentRenew } := by
  cases p <;> rfl

theorem Window.ite_loadLease (p : Bool) (b : FieldBlock) (w : Window) :
    (if p then w.loadLease b else w)
      = { w with
          leaseMode := if p then (leaseModeOf b.leaseMode).getD .none else w.leaseMode
          leaseReload :=
            if p then (if b.leaseReload.toNat = 0 then 1 else b.leaseReload.toNat) else w.leaseReload
          expiryAction := if p then (expiryActionOf b.expiryAction).getD .retire else w.expiryAction } := by
  cases p <;> rfl

/-- The idle limit that a block carries (R8). -/
def FieldBlock.idleOf (b : FieldBlock) : Option Nat := if b.flags.getLsbD 1 then some b.idleLimit.toNat else none

/-- The walk that a block carries (R9). -/
def FieldBlock.walkOf (b : FieldBlock) : Option Walk :=
  if b.flags.getLsbD 2 then
    some { pair := if b.flags.getLsbD 3 then .b else .a, start := b.walkStart.toNat, stride := b.stride.toNat,
           stepLimit := b.stepLimit.toNat, commitAtRestart := b.flags.getLsbD 4 }
  else none

theorem Window.ite_loadIdle (p : Bool) (b : FieldBlock) (w : Window) :
    (if p then (w.loadIdle b).reloadIdle else w)
      = { w with
          idleLimit := if p then b.idleOf else w.idleLimit
          idleCount :=
            if p = true ∧ (w.state = .opened ∨ w.state = .frozen) then b.idleOf.getD 0 else w.idleCount } := by
  cases p
  · rfl
  · by_cases service : w.state = .opened ∨ w.state = .frozen
    · simp only [Window.reloadIdle, Window.loadIdle, service]
      rfl
    · simp only [Window.reloadIdle, Window.loadIdle, service]
      rfl

theorem Window.ite_loadWalk (p : Bool) (b : FieldBlock) (w : Window) :
    (if p then w.loadWalk b else w) = { w with walk := if p then b.walkOf else w.walk } := by
  cases p <;> rfl

/-- The record with the selected groups loaded, field by field. -/
theorem Window.loadSelected_eq (x : Selection) (b : FieldBlock) (w : Window) :
    w.loadSelected x b
      = { w with
          base := if x.geometry then b.base.toNat else w.base
          granule := if x.geometry then b.granule.toNat else w.granule
          span := if x.geometry then b.span.toNat else w.span
          access := if x.access then (if b.access.toNat = 1 then .claimed else .openAccess) else w.access
          rights := if x.access then tabulate 8 fun c => rightOf (b.rightCode c) else w.rights
          laneMask := if x.access then b.laneMask else w.laneMask
          claimLimit := if x.claims then b.claimLimit.toNat else w.claimLimit
          holdLimit := if x.claims then b.holdLimit.toNat else w.holdLimit
          agentRenew := if x.claims then b.agentRenew else w.agentRenew
          leaseMode := if x.lease then (leaseModeOf b.leaseMode).getD .none else w.leaseMode
          leaseReload :=
            if x.lease then (if b.leaseReload.toNat = 0 then 1 else b.leaseReload.toNat) else w.leaseReload
          expiryAction := if x.lease then (expiryActionOf b.expiryAction).getD .retire else w.expiryAction
          idleLimit := if x.idle then b.idleOf else w.idleLimit
          idleCount :=
            if x.idle = true ∧ (w.state = .opened ∨ w.state = .frozen) then b.idleOf.getD 0 else w.idleCount
          walk := if x.walk then b.walkOf else w.walk } := by
  simp only [Window.loadSelected, Window.ite_loadGeometry, Window.ite_loadAccess, Window.ite_loadClaims,
    Window.ite_loadLease, Window.ite_loadIdle, Window.ite_loadWalk]

theorem exec_windowModify_badSlot (due : s.commandDue (.windowModify slot select b) = true) (h : slotOf slot = none) :
    exec (.windowModify slot select b) s = .next (s.portGranted.answered 0x21 (some .badSlot) []) :=
  takeCommand_refused due rfl (State.withSlot_none h)

theorem exec_windowModify_refused {why : Reason} (due : s.commandDue (.windowModify slot select b) = true)
    (hk : slotOf slot = some k) (h : s.modifyCheck k select b = some why) :
    exec (.windowModify slot select b) s = .next (s.portGranted.answered 0x21 (some why) []) :=
  takeCommand_refused due rfl (by
    rw [windowModifyReply, State.withSlot_some hk]
    simp only [State.portGranted_modifyCheck, h])

theorem exec_windowModify_done (due : s.commandDue (.windowModify slot select b) = true) (hk : slotOf slot = some k)
    (h : s.modifyCheck k select b = none) :
    exec (.windowModify slot select b) s
      = .next ((s.portGranted.putWindow k ((s.window k).loadSelected (selectionOf select) b)).answered 0x21 none
          [slot, (s.window k).state.code]) :=
  takeCommand_done due rfl (by
    rw [windowModifyReply, State.withSlot_some hk]
    simp only [State.portGranted_modifyCheck, h, State.slotState, slotOf_byte hk]
    rfl)

end

end Sys2Proof.Machine

/-! ### WINDOW MODIFY: the statements -/

namespace Sys2Proof.Machine

section

variable {s : State} {slot select : Byte} {b : FieldBlock} {k : SlotId}

/-- A WINDOW MODIFY that fits, whose merged block passes and whose claim limit reaches the HELD count, is accepted. -/
theorem State.modifyCheck_accepts (fits : s.ModifyFits k select b)
    (passes : (FieldBlock.merge (selectionOf select) b (s.window k).block).check = none)
    (room : select.getLsbD 2 = true → s.heldCount k ≤ b.claimLimit.toNat) : s.modifyCheck k select b = none := by
  rw [State.modifyCheck_fits fits, passes, if_neg fun both => Nat.not_lt.mpr (room both.1) both.2]
  rfl

theorem State.modifyCheck_claimsHeld (fits : s.ModifyFits k select b)
    (passes : (FieldBlock.merge (selectionOf select) b (s.window k).block).check = none)
    (claims : select.getLsbD 2 = true) (held : b.claimLimit.toNat < s.heldCount k) :
    s.modifyCheck k select b = some .claimsHeld := by
  rw [State.modifyCheck_fits fits, passes, if_pos ⟨claims, held⟩]
  rfl

end

/-- Settles O18: each clause is one failing check, those before it passed. -/
theorem windowModifyChecksInOrder : Obligations.WindowModifyChecksInOrder := by
  intro s slot select b due refused
  refine ⟨fun h => exec_windowModify_badSlot due (slotOf_eq_none.mpr h), fun h field => ?_, fun k hk small =>
    ⟨fun state => exec_windowModify_refused due hk (State.modifyCheck_state small state), fun state =>
      ⟨fun member lease => exec_windowModify_refused due hk (State.modifyCheck_group small state member lease),
        fun alone unstaged moves => exec_windowModify_refused due hk
          (State.modifyCheck_inService small (state.resolve_left unstaged) alone moves)⟩⟩,
    fun k merged hk fits merges => ?_⟩
  · obtain ⟨k, hk⟩ := slotOf_isSome h
    exact exec_windowModify_refused due hk (State.modifyCheck_badField field)
  · have same := FieldBlock.merge_eq fits.1 merges
    refine ⟨fun why fails => exec_windowModify_refused due hk ?_, fun passes claims held =>
      exec_windowModify_refused due hk (State.modifyCheck_claimsHeld fits (by rw [same, passes]) claims held)⟩
    rw [State.modifyCheck_fits fits, same, fails]
    rfl

theorem accessAndClaims_selection : selectionOf 0x06 = ⟨false, true, true, false, false, false⟩ := by decide

/-- Settles O19: ACCESS and CLAIMS fit in every state that MODIFY takes, and only their fields are loaded. -/
theorem windowModifyAccessAndClaims : Obligations.WindowModifyAccessAndClaims := by
  intro s slot b k due hk state range access rights mask claimsLow claimsHigh reserved
  have fits : s.ModifyFits k 0x06 b :=
    ⟨by decide, state, fun both => absurd both.2 (by decide), fun _ =>
      ⟨by decide, by decide, fun lease => absurd lease (by decide)⟩⟩
  have passes : (FieldBlock.merge (selectionOf 0x06) b (s.window k).block).check = none := by
    rw [accessAndClaims_selection]
    exact FieldBlock.merge_check (Window.block_check range) rfl rfl (fun _ => ⟨access, rights, mask⟩)
      (fun _ => ⟨claimsLow, claimsHigh⟩) nofun nofun reserved
  refine ⟨fun held => exec_windowModify_refused due hk
    (State.modifyCheck_claimsHeld fits passes (by decide) held), fun room => ?_⟩
  refine ⟨tabulate 8 fun c => rightOf (b.rightCode c), fun c => Window.loadAccess_rights_code (s.window k) c (rights c),
    ?_⟩
  rw [exec_windowModify_done due hk (State.modifyCheck_accepts fits passes fun _ => room), Window.loadSelected_eq,
    accessAndClaims_selection, ← accessOf_byte access]
  rfl

section

variable {s : State} {slot : Byte} {b : FieldBlock} {k : SlotId}

theorem idle_selection : selectionOf 0x10 = ⟨false, false, false, false, true, false⟩ := by decide

theorem lease_selection : selectionOf 0x08 = ⟨false, false, false, true, false, false⟩ := by decide

theorem all_selection : selectionOf 0x3F = ⟨true, true, true, true, true, true⟩ := by decide

/-- The IDLE group alone (R18). -/
theorem exec_windowModify_idle (due : s.commandDue (.windowModify slot 0x10 b) = true) (hk : slotOf slot = some k)
    (state : (s.window k).state = .staged ∨ (s.window k).state = .opened ∨ (s.window k).state = .frozen)
    (range : (s.window k).InRange) (limit : b.flags.getLsbD 1 = true → 1 ≤ b.idleLimit.toNat)
    (reserved : b.flags.toNat < 32) :
    exec (.windowModify slot 0x10 b) s
      = .next ((s.portGranted.putWindow k
          { s.window k with
            idleLimit := b.idleOf
            idleCount := if (s.window k).state = .staged then (s.window k).idleCount else b.idleOf.getD 0 }).answered
          0x21 none [slot, (s.window k).state.code]) := by
  have fits : s.ModifyFits k 0x10 b :=
    ⟨by decide, state, fun both => absurd both.2 (by decide), fun _ =>
      ⟨by decide, by decide, fun lease => absurd lease (by decide)⟩⟩
  have passes : (FieldBlock.merge (selectionOf 0x10) b (s.window k).block).check = none := by
    rw [idle_selection]
    exact FieldBlock.merge_check (Window.block_check range) rfl rfl nofun nofun nofun (fun _ => limit) reserved
  rw [exec_windowModify_done due hk (State.modifyCheck_accepts fits passes fun claims => absurd claims (by decide)),
    Window.loadSelected_eq, idle_selection]
  rcases state with h | h | h <;> simp [h]

/-- The LEASE group alone under the same mode (R18). -/
theorem exec_windowModify_lease (due : s.commandDue (.windowModify slot 0x08 b) = true) (hk : slotOf slot = some k)
    (state : (s.window k).state = .staged ∨ (s.window k).state = .opened ∨ (s.window k).state = .frozen)
    (range : (s.window k).InRange) (role : (s.window k).role ≠ .member)
    (mode : b.leaseMode = (s.window k).leaseMode.code)
    (lease : (s.window k).leaseMode ≠ .none → 1 ≤ b.leaseReload.toNat ∧ b.expiryAction.toNat ≤ 2)
    (reserved : b.flags.toNat < 32) :
    exec (.windowModify slot 0x08 b) s
      = .next ((s.portGranted.putWindow k
          { s.window k with
            leaseReload := if b.leaseReload.toNat = 0 then 1 else b.leaseReload.toNat
            expiryAction := (expiryActionOf b.expiryAction).getD .retire }).answered
          0x21 none [slot, (s.window k).state.code]) := by
  have fits : s.ModifyFits k 0x08 b :=
    ⟨by decide, state, fun both => role both.1, fun _ => ⟨by decide, by decide, fun _ => mode.symm⟩⟩
  have passes : (FieldBlock.merge (selectionOf 0x08) b (s.window k).block).check = none := by
    rw [lease_selection]
    refine FieldBlock.merge_check (Window.block_check range) rfl rfl nofun nofun (fun _ => ?_) nofun reserved
    rw [mode]
    cases m : (s.window k).leaseMode
    · exact .inl rfl
    · exact .inr ⟨by decide, lease (by simp [m])⟩
    · exact .inr ⟨by decide, lease (by simp [m])⟩
  rw [exec_windowModify_done due hk (State.modifyCheck_accepts fits passes fun claims => absurd claims (by decide)),
    Window.loadSelected_eq, lease_selection, mode, leaseModeOf_of_code]
  rfl

/-- With every group selected the merged block is the carried one. -/
theorem FieldBlock.merge_all (carried kept : FieldBlock) : FieldBlock.merge (selectionOf 0x3F) carried kept = carried :=
  FieldBlock.merge_eq (by decide) ⟨rfl, fun i lt => by
    have : i = 0 ∨ i = 1 ∨ i = 2 ∨ i = 3 ∨ i = 4 ∨ i = 5 ∨ i = 6 ∨ i = 7 := by omega
    rcases this with rfl | rfl | rfl | rfl | rfl | rfl | rfl | rfl <;> rfl⟩

/-- Every group of a STAGED SOLO window or HEAD (R17). -/
theorem exec_windowModify_all (due : s.commandDue (.windowModify slot 0x3F b) = true) (hk : slotOf slot = some k)
    (staged : (s.window k).state = .staged) (role : (s.window k).role ≠ .member) (passes : b.check = none)
    (unheld : s.heldCount k = 0) :
    exec (.windowModify slot 0x3F b) s
      = .next ((s.portGranted.putWindow k
          { Window.create (s.window k).role b with
            leaseCount := (s.window k).leaseCount, idleCount := (s.window k).idleCount,
            stepCount := (s.window k).stepCount, drainCount := (s.window k).drainCount,
            overrun := (s.window k).overrun, activeMap := (s.window k).activeMap,
            shadowMap := (s.window k).shadowMap, shadowPending := (s.window k).shadowPending,
            lastHold := (s.window k).lastHold }).answered 0x21 none [slot, (s.window k).state.code]) := by
  have fits : s.ModifyFits k 0x3F b := ⟨by decide, .inl staged, fun both => role both.1, fun h => absurd staged h⟩
  have merged : (FieldBlock.merge (selectionOf 0x3F) b (s.window k).block).check = none := by
    rw [FieldBlock.merge_all, passes]
  rw [exec_windowModify_done due hk (State.modifyCheck_accepts fits merged fun _ => by omega),
    Window.loadSelected_eq, all_selection]
  simp only [staged, Window.create, if_neg role]
  rfl

/-- An accepted WINDOW MODIFY of any select set (R17, R18). -/
theorem exec_windowModify_any {select : Byte} {merged : FieldBlock}
    (due : s.commandDue (.windowModify slot select b) = true) (hk : slotOf slot = some k)
    (fits : s.ModifyFits k select b) (merges : FieldBlock.MergesTo select b (s.window k).block merged)
    (passes : merged.check = none) (room : select.getLsbD 2 = true → s.heldCount k ≤ b.claimLimit.toNat) :
    exec (.windowModify slot select b) s
      = .next ((s.portGranted.putWindow k ((s.window k).loadSelected (selectionOf select) b)).answered 0x21 none
          [slot, (s.window k).state.code]) :=
  exec_windowModify_done due hk
    (State.modifyCheck_accepts fits (by rw [FieldBlock.merge_eq fits.1 merges, passes]) room)

end

/-- The idle count is loaded in OPEN and FROZEN, that is in no state but STAGED of those that MODIFY takes. -/
theorem Window.inService_iff_not_staged {w : Window}
    (state : w.state = .staged ∨ w.state = .opened ∨ w.state = .frozen) :
    (w.state = .opened ∨ w.state = .frozen) ↔ w.state ≠ .staged := by
  rcases state with h | h | h <;> simp [h]

/-- Settles O20: the accepted record read field by field, and the three select sets on their own. -/
theorem windowModifyLeaseIdleAndAllGroups : Obligations.WindowModifyLeaseIdleAndAllGroups := by
  constructor
  · intro s slot b k w hk hw state range loaded
    subst hw
    refine ⟨fun due limit reserved => exec_windowModify_idle due hk state range limit reserved,
      fun due role mode lease reserved => ⟨_, exec_windowModify_lease due hk state range role mode lease reserved, rfl,
        rfl, fun h => expiryActionOf_code h, fun h => expiryActionOf_undefined h⟩,
      fun due staged role check unheld => exec_windowModify_all due hk staged role check ?_⟩
    exact List.countP_eq_zero.mpr fun i _ both => by
      simp only [Bool.and_eq_true, beq_iff_eq] at both
      exact unheld i both.1 both.2
  · intro s slot select b merged k w due hk hw fits merges passes room
    subst hw
    have same := FieldBlock.merge_eq fits.1 merges
    obtain ⟨⟨_, _, _, accessFits, rightsFit, _, _, leaseFits, _⟩, _, _⟩ := FieldBlock.check_eq_none.mp passes
    rw [← same] at accessFits rightsFit leaseFits
    refine ⟨_, exec_windowModify_any due hk fits merges passes room, ?_, fun access c => ?_, fun kept => ?_,
      fun lease => ?_, fun kept => ?_⟩
    all_goals rw [Window.loadSelected_eq]
    · have count := Window.inService_iff_not_staged fits.2.1
      congr 1
      · refine ite_congr rfl (fun access => accessOf_byte ?_) fun _ => rfl
        rwa [FieldBlock.merge, show (selectionOf select).access = true from access] at accessFits
      · exact if_congr (and_congr_right fun _ => count) rfl rfl
    · have selected : (selectionOf select).access = true := access
      simp only [FieldBlock.merge, selected, if_true] at rightsFit ⊢
      exact Window.loadAccess_rights_code (s.window k) c (rightsFit c)
    · exact if_neg (by rw [show (selectionOf select).access = false from kept]; decide)
    · have selected : (selectionOf select).lease = true := lease
      simp only [FieldBlock.merge, selected, if_true] at leaseFits ⊢
      exact ⟨leaseModeOf_code (by omega), trivial, fun h => expiryActionOf_code h, fun h => expiryActionOf_undefined h⟩
    · simp [show (selectionOf select).lease = false from kept]

end Sys2Proof.Machine

/-! ### Units, owners and what keeps the groups whole (R3, R80 to R82) -/

namespace Sys2Proof.Machine

/-! #### The owner of a slot -/

/-- The owner of a slot lies at or below it, with MEMBERs up to the slot, and holds none itself unless it is slot 0. -/
theorem State.ownerFrom_spec (s : State) {n : Nat} (lt : n < 64) :
    (s.ownerFrom n).val ≤ n
      ∧ (∀ i : SlotId, (s.ownerFrom n).val < i.val → i.val ≤ n → (s.window i).isMember = true)
      ∧ ((s.ownerFrom n).val = 0 ∨ (s.window (s.ownerFrom n)).isMember = false) := by
  induction n with
  | zero => exact ⟨Nat.le_refl 0, fun i above below => by simp [State.ownerFrom] at above; omega, .inl rfl⟩
  | succ n ih =>
    obtain ⟨le, between, stop⟩ := ih (by omega)
    have val : (Fin.ofNat 64 (n + 1) : SlotId).val = n + 1 := Nat.mod_eq_of_lt lt
    unfold State.ownerFrom
    split
    · rename_i member
      refine ⟨by omega, fun i above below => ?_, stop⟩
      rcases Nat.lt_or_eq_of_le below with lower | here
      · exact between i above (by omega)
      · rwa [show i = Fin.ofNat 64 (n + 1) from Fin.ext (here.trans val.symm)]
    · rename_i alone
      refine ⟨val.le, fun i above below => ?_, .inr (by simpa using alone)⟩
      omega

theorem State.owner_le (s : State) (k : SlotId) : (s.owner k).val ≤ k.val := (s.ownerFrom_spec k.isLt).1

theorem State.isMember_above_owner {s : State} {k i : SlotId} (above : (s.owner k).val < i.val)
    (below : i.val ≤ k.val) : (s.window i).isMember = true :=
  (s.ownerFrom_spec k.isLt).2.1 i above below

/-- The nearest slot at or below that holds no MEMBER is the owner. -/
theorem State.owner_unique {s : State} {k o : SlotId} (le : o.val ≤ k.val)
    (between : ∀ i : SlotId, o.val < i.val → i.val ≤ k.val → (s.window i).isMember = true)
    (alone : (s.window o).isMember = false) : s.owner k = o := by
  rcases Nat.lt_trichotomy (s.owner k).val o.val with lower | same | higher
  · rw [State.isMember_above_owner lower le] at alone
    cases alone
  · exact Fin.ext same
  · have member := between _ higher (s.owner_le k)
    rcases (s.ownerFrom_spec k.isLt).2.2 with zero | stop
    · exact absurd higher (by rw [State.owner, zero]; omega)
    · rw [State.owner, stop] at member
      cases member

theorem State.owner_owner (s : State) (k : SlotId) : s.owner (s.owner k) = s.owner k := by
  rcases (s.ownerFrom_spec k.isLt).2.2 with zero | stop
  · rw [show s.owner k = 0 from Fin.ext zero]
    rfl
  · exact State.owner_self stop

/-- The owner of a slot depends on which slots hold a MEMBER alone. -/
theorem State.owner_congr_members {s t : State} (e : ∀ k, (t.window k).isMember = (s.window k).isMember) (k : SlotId) :
    t.owner k = s.owner k := by
  have all : ∀ n, t.ownerFrom n = s.ownerFrom n := fun n => by
    induction n with
    | zero => rfl
    | succ n ih => simp only [State.ownerFrom, e, ih]
  exact all k.val

/-! #### The slots of a whole group -/

theorem State.membersFrom_between {s : State} {fuel k : Nat} {j i : SlotId} (h : j ∈ s.membersFrom fuel k)
    (low : k ≤ i.val) (high : i.val ≤ j.val) : (s.window i).isMember = true := by
  induction fuel generalizing k with
  | zero => simp [State.membersFrom] at h
  | succ n ih =>
    unfold State.membersFrom at h
    split at h
    · split at h
      · rename_i lt member
        rcases Nat.lt_or_eq_of_le low with above | here
        · rcases List.mem_cons.mp h with rfl | rest
          · exact absurd high (by simpa using above)
          · exact ih rest above
        · rwa [show i = ⟨k, lt⟩ from Fin.ext here.symm]
      · cases h
    · cases h

theorem State.mem_membersFrom {s : State} {fuel k : Nat} {j : SlotId} (le : k ≤ j.val) (room : j.val < k + fuel)
    (between : ∀ i : SlotId, k ≤ i.val → i.val ≤ j.val → (s.window i).isMember = true) : j ∈ s.membersFrom fuel k := by
  induction fuel generalizing k with
  | zero => omega
  | succ n ih =>
    have lt : k < 64 := by omega
    unfold State.membersFrom
    rw [dif_pos lt, if_pos (between ⟨k, lt⟩ (Nat.le_refl k) le)]
    rcases Nat.lt_or_eq_of_le le with above | here
    · exact List.mem_cons_of_mem _ (ih above (by omega) fun i low high => between i (by omega) high)
    · exact List.mem_cons.mpr (.inl (Fin.ext here.symm))

/-- In a part whose groups are whole no owner holds a MEMBER. -/
theorem GroupsAgree.alone {s : State} (g : GroupsAgree s) {h : SlotId} (own : s.owner h = h) :
    (s.window h).isMember = false := by
  by_contra member
  rw [Bool.not_eq_false] at member
  have head := (g h member).1
  rw [own, Window.isHead_iff] at head
  rw [Window.isMember_iff, head.2] at member
  cases member.2

theorem GroupsAgree.owner_alone {s : State} (g : GroupsAgree s) (k : SlotId) :
    (s.window (s.owner k)).isMember = false :=
  g.alone (s.owner_owner k)

/-- A unit is its owner with every slot that the owner governs (R80). -/
theorem GroupsAgree.mem_unitSlots_iff {s : State} (g : GroupsAgree s) {h j : SlotId} (own : s.owner h = h) :
    j ∈ s.unitSlots h ↔ s.owner j = h := by
  constructor
  · intro mem
    by_cases e : j = h
    · rwa [e]
    · have head : (s.window h).isHead = true := by
        by_contra single
        rw [State.unitSlots_single (by simpa using single), List.mem_singleton] at mem
        exact e mem
      simp only [State.unitSlots, head, if_true, List.mem_cons, e, false_or] at mem
      have above := s.membersFrom_ge _ _ mem
      exact State.owner_unique (by omega) (fun i low high => State.membersFrom_between mem low high) (g.alone own)
  · rintro rfl
    by_cases member : (s.window j).isMember = true
    · have below : (s.owner j).val ≠ j.val := fun e => by
        rw [← Fin.ext e, g.owner_alone j] at member
        cases member
      have le := s.owner_le j
      rw [State.unitSlots, if_pos (g j member).1]
      exact List.mem_cons_of_mem _ (State.mem_membersFrom (by omega) (by omega) fun i low high =>
        State.isMember_above_owner low high)
    · rw [State.owner_self (by simpa using member)]
      exact s.mem_unitSlots_self j

/-! #### Changes that keep the groups whole -/

/-- A member's state agrees with its head's: the same, or FROZEN alone while the head is OPEN (R81). -/
def WState.Agrees (member head : WState) : Prop := member = head ∨ (member = .frozen ∧ head = .opened)

/-- A change that keeps which slots hold MEMBERs and HEADs keeps the groups whole where the states still agree. -/
theorem GroupsAgree.of_kinds {s t : State} (g : GroupsAgree s)
    (members : ∀ j, (t.window j).isMember = (s.window j).isMember)
    (heads : ∀ j, (t.window j).isHead = (s.window j).isHead)
    (states : ∀ j, (s.window j).isMember = true → (t.window j).state.Agrees (t.window (s.owner j)).state) :
    GroupsAgree t := by
  intro j member
  rw [members] at member
  obtain ⟨head, near, _⟩ := g j member
  rw [State.owner_congr_members members, heads]
  exact ⟨head, near, states j member⟩

/-- A change of windows that keeps every state and role keeps the groups whole. -/
theorem GroupsAgree.of_states {s t : State} (g : GroupsAgree s)
    (same : ∀ j, (t.window j).state = (s.window j).state ∧ (t.window j).role = (s.window j).role) : GroupsAgree t :=
  g.of_kinds (fun j => by simp [Window.isMember, same]) (fun j => by simp [Window.isHead, same]) fun j member => by
    rw [(same j).1, (same _).1]
    exact (g j member).2.2

/-- The windows of a unit change, each state by one map, and the others are kept. -/
theorem GroupsAgree.unit {s : State} (g : GroupsAgree s) {h : SlotId} (own : s.owner h = h) {f : Window → Window}
    (φ : WState → WState) (role : ∀ j ∈ s.unitSlots h, (f (s.window j)).role = (s.window j).role)
    (state : ∀ j ∈ s.unitSlots h, (f (s.window j)).state = φ (s.window j).state)
    (live : ∀ j ∈ s.unitSlots h, (f (s.window j)).state = .free ↔ (s.window j).state = .free)
    (agree : (φ .frozen).Agrees (φ .opened)) : GroupsAgree (s.modifyWindows (s.unitSlots h) f) := by
  have inside := fun j mem => s.window_modifyWindows_mem (s.unitSlots h) f j (s.unitSlots_nodup h) mem
  have outside := fun j out => s.window_modifyWindows_notMem (s.unitSlots h) f j out
  refine g.of_kinds (fun j => ?_) (fun j => ?_) fun j member => ?_
  · by_cases mem : j ∈ s.unitSlots h
    · rw [inside j mem, Bool.eq_iff_iff, Window.isMember_iff, Window.isMember_iff, role j mem, Ne, live j mem]
    · rw [outside j mem]
  · by_cases mem : j ∈ s.unitSlots h
    · rw [inside j mem, Bool.eq_iff_iff, Window.isHead_iff, Window.isHead_iff, role j mem, Ne, live j mem]
    · rw [outside j mem]
  · obtain ⟨_, _, agrees⟩ := g j member
    by_cases mem : j ∈ s.unitSlots h
    · have head : s.owner j = h := (g.mem_unitSlots_iff own).mp mem
      rw [head] at agrees ⊢
      rw [inside j mem, inside h (s.mem_unitSlots_self h), state j mem, state h (s.mem_unitSlots_self h)]
      rcases agrees with same | ⟨frozen, opened⟩
      · exact .inl (by rw [same])
      · rwa [frozen, opened]
    · have head : s.owner j ∉ s.unitSlots h := fun in_ => mem <| by
        rw [g.mem_unitSlots_iff own, s.owner_owner] at in_
        exact (g.mem_unitSlots_iff own).mpr in_
      rw [outside j mem, outside _ head]
      exact agrees

/-- A MEMBER whose group's windows up to it are kept stays in its group. -/
theorem GroupsAgree.frame {s t : State} (g : GroupsAgree s) {j : SlotId} (member : (s.window j).isMember = true)
    (same : ∀ i : SlotId, (s.owner j).val ≤ i.val → i.val ≤ j.val → t.window i = s.window i) :
    (t.window (t.owner j)).isHead = true ∧ j.val ≤ (t.owner j).val + 7
      ∧ (t.window j).state.Agrees (t.window (t.owner j)).state := by
  have le := s.owner_le j
  have owner : t.owner j = s.owner j :=
    State.owner_unique le
      (fun i above below => by rw [same i (by omega) below]; exact State.isMember_above_owner above below)
      (by rw [same _ (Nat.le_refl _) le]; exact g.owner_alone j)
  rw [owner, same _ (Nat.le_refl _) le, same j le (Nat.le_refl _)]
  exact g j member

/-- A unit becomes FREE as a whole (R126). -/
theorem GroupsAgree.clearUnit {s : State} (g : GroupsAgree s) {h : SlotId} (own : s.owner h = h) :
    GroupsAgree (s.clearSlots (s.unitSlots h)) := by
  intro j member
  have kept : ∀ i, s.owner i ≠ h → (s.clearSlots (s.unitSlots h)).window i = s.window i := fun i out =>
    s.window_modifyWindows_notMem _ _ _ fun mem => out ((g.mem_unitSlots_iff own).mp mem)
  have out : s.owner j ≠ h := fun e => by
    rw [State.clearSlots, s.window_modifyWindows_mem _ _ _ (s.unitSlots_nodup h) ((g.mem_unitSlots_iff own).mpr e)]
      at member
    cases member
  rw [kept j out] at member
  refine g.frame member fun i low high => kept i ?_
  rcases Nat.lt_or_eq_of_le low with above | here
  · rwa [State.owner_unique (o := s.owner j) low
      (fun l above below => State.isMember_above_owner above (by omega)) (g.owner_alone j)]
  · rwa [← Fin.ext here, s.owner_owner]

/-- The last MEMBER of a group becomes FREE alone (R92). -/
theorem GroupsAgree.clearTail {s : State} (g : GroupsAgree s) {k : SlotId} (last : s.isStagedTail k = true)
    (isMember : (s.window k).isMember = true) : GroupsAgree (s.clearSlots [k]) := by
  intro j member
  have kept : ∀ i, i ≠ k → (s.clearSlots [k]).window i = s.window i := fun i ne =>
    s.window_modifyWindows_notMem _ _ _ (by simpa using ne)
  have ne : j ≠ k := fun e => by
    rw [e, State.clearSlots, s.window_modifyWindows_mem _ _ _ (by simp) (by simp)] at member
    cases member
  rw [kept j ne] at member
  refine g.frame member fun i low high => kept i fun e => ?_
  subst e
  have notHead : (s.owner j).val ≠ i.val := fun e => by
    rw [← Fin.ext e, g.owner_alone j] at isMember
    cases isMember
  have below : i.val < j.val := lt_of_le_of_ne high fun e => ne (Fin.ext e.symm)
  have next := State.isMember_above_owner (s := s) (k := j) (i := ⟨i.val + 1, by omega⟩) (by simp; omega) below
  simp [State.isStagedTail, show i.val + 1 < 64 by omega, next] at last

/-- What WINDOW CREATE loads on a FREE slot joins the group below it, or stands alone (R80, R82). -/
theorem GroupsAgree.create {s : State} (g : GroupsAgree s) {k : SlotId} {w : Window}
    (free : (s.window k).state = .free) (staged : w.state = .staged)
    (fits : w.role = .member → s.memberCheck k = none) : GroupsAgree (s.putWindow k w) := by
  have kept : ∀ i, (s.window i).state ≠ .free → (s.putWindow k w).window i = s.window i := fun i live => by
    rw [State.window_putWindow, if_neg fun e => live (by rw [← e]; exact free)]
  have memberLive : ∀ i, (s.window i).isMember = true → (s.window i).state ≠ .free := fun i h =>
    (Window.isMember_iff.mp h).1
  intro j member
  by_cases e : k = j
  · subst e
    rw [State.window_putWindow_self, Window.isMember_iff] at member
    have passes := fits member.2
    have above : k.val ≠ 0 := fun zero => by rw [State.memberCheck_bottom zero] at passes; cases passes
    let below : SlotId := ⟨k.val - 1, by omega⟩
    have next : below.val + 1 = k.val := by simp only [below]; omega
    rw [State.memberCheck_above next] at passes
    split at passes
    · cases passes
    split at passes
    · cases passes
    split at passes
    · cases passes
    rename_i grouped ready room
    rw [not_not] at grouped ready
    have near : below.val ≤ (s.owner below).val + 7 ∧ (s.window (s.owner below)).isHead = true := by
      by_cases isMember : (s.window below).isMember = true
      · exact ⟨(g below isMember).2.1, (g below isMember).1⟩
      · rw [State.owner_self (by simpa using isMember)]
        have head := Window.grouped_iff.mpr grouped
        exact ⟨by omega, by simpa [isMember] using head⟩
    have ownerLe := s.owner_le below
    have ownerLive : (s.window (s.owner below)).state ≠ .free := by simp [ready]
    have owner : (s.putWindow k w).owner k = s.owner below := by
      refine State.owner_unique (by omega) (fun i low high => ?_) (by rw [kept _ ownerLive]; exact g.owner_alone below)
      rcases Nat.lt_or_eq_of_le high with lower | here
      · have isMember : (s.window i).isMember = true := State.isMember_above_owner low (by omega)
        rwa [kept i (memberLive i isMember)]
      · rw [Fin.ext here, State.window_putWindow_self, Window.isMember_iff]
        exact member
    rw [owner, kept _ ownerLive, State.window_putWindow_self, staged, ready]
    exact ⟨near.2, by omega, .inl rfl⟩
  · rw [State.window_putWindow, if_neg e] at member
    refine g.frame member fun i low high => kept i ?_
    rcases Nat.lt_or_eq_of_le low with higher | here
    · exact memberLive i (State.isMember_above_owner higher high)
    · rw [← Fin.ext here]
      exact (Window.isHead_iff.mp (g j member).1).1

/-- A MEMBER, or a SOLO window, that is OPEN freezes alone (R73, R81). -/
theorem GroupsAgree.freezeAlone {s : State} (g : GroupsAgree s) {k : SlotId} (opened : (s.window k).state = .opened)
    (head : (s.window k).isHead = false) : GroupsAgree (s.modifyWindow k Window.freeze) := by
  have window := fun j => s.window_modifyWindow k j Window.freeze
  have frozen : (s.window k).freeze = { s.window k with state := .frozen } := by simp [Window.freeze, opened]
  refine g.of_kinds (fun j => ?_) (fun j => ?_) fun j member => ?_
  · rw [window]
    split
    · rename_i e
      simp [frozen, ← e, Window.isMember, opened]
      rfl
    · rfl
  · rw [window]
    split
    · rename_i e
      simp [frozen, ← e, Window.isHead, opened]
      rfl
    · rfl
  · obtain ⟨isHead, _, agrees⟩ := g j member
    have ne : k ≠ s.owner j := fun e => by rw [← e, head] at isHead; cases isHead
    rw [window, window, if_neg ne]
    split
    · rename_i e
      subst e
      rw [opened] at agrees
      exact .inr ⟨by rw [frozen], agrees.elim (fun same => same.symm) fun both => both.2⟩
    · exact agrees

end Sys2Proof.Machine

/-! ### What one step can do to the windows and the gates

Said once, for the three invariants that follow: every step is a chain of `State.Event`s. -/

namespace Sys2Proof.Machine

/-! #### The moves -/

/-- Windows, gates and the drain limit are kept. -/
structure State.Keeps (s t : State) : Prop where
  windows : t.windows = s.windows
  gates : t.gates = s.gates
  limit : t.drainLimit = s.drainLimit

/-- A change of one record that keeps its state and its role. `limit` is the drain limit of the part. -/
inductive Window.Adjusts (limit : Nat) : Window → Window → Prop
  | renew (w : Window) (count : BitVec 16) : Adjusts limit w (w.renew count)
  | commit (w : Window) : Adjusts limit w w.commit
  | writeActive {w : Window} (map : BitVec 256) (staged : w.state = .staged) :
      Adjusts limit w { w with activeMap := map }
  | writeShadow (w : Window) (map : BitVec 256) : Adjusts limit w { w with shadowMap := map, shadowPending := true }
  | released (w : Window) (hold : Stamp) : Adjusts limit w { w with lastHold := some hold }
  | used (w : Window) : Adjusts limit w w.used
  | restart (w : Window) (p : PulsePair) : Adjusts limit w (w.restart p)
  | advance (w : Window) (p : PulsePair) : Adjusts limit w (w.advance p)
  | drainLoaded (w : Window) : Adjusts limit w { w with drainCount := limit }
  | drainCounted (w : Window) : Adjusts limit w { w with drainCount := w.drainCount - 1 }

/-- A change of every window of the unit of `h`. -/
inductive State.UnitChange (s : State) (h : SlotId) : (Window → Window) → Prop
  | activate (staged : (s.window h).state = .staged) : UnitChange s h (Window.activate (s.window h).leaseMode)
  | disarm (armed : (s.window h).state = .armed) : UnitChange s h fun w => { w with state := .staged }
  | openAtTick (armed : (s.window h).state = .armed) : UnitChange s h Window.openAtTick
  | freeze : UnitChange s h Window.freeze
  | thaw : UnitChange s h Window.thawed
  | drain (service : (s.window h).state = .opened ∨ (s.window h).state = .frozen) :
      UnitChange s h fun w => { w with state := .draining }
  | free : UnitChange s h fun _ => Window.free

/-- Slot `h` owns the lease of an OPEN slot. -/
def State.OwnsOpen (s : State) (h : SlotId) : Prop :=
  s.owner h = h ∧ ∃ k, s.owner k = h ∧ (s.window k).state = .opened

/-- The moves of the windows and gates, each of which leaves the windows in their ranges. `D` says which drain limits
may be loaded. -/
inductive State.Move (D : Nat → Prop) : State → State → Prop
  | keep {s t : State} (kept : s.Keeps t) : Move D s t
  | limit {s t : State} (windows : t.windows = s.windows) (gates : t.gates = s.gates) (loaded : D t.drainLimit) :
      Move D s t
  | reset {s t : State} (windows : ∀ k, t.window k = Window.free) (gates : ∀ g, t.gate g = Gate.reset)
      (loaded : D t.drainLimit) : Move D s t
  | bind (s : State) (g : GateId) (k : SlotId) (polarity : Polarity) (mode : GateMode) :
      Move D s (s.putGate g ((s.gate g).rebind (some k) polarity mode ((s.window k).state == .opened)))
  | unbind (s : State) (g : GateId) (polarity : Polarity) (mode : GateMode) :
      Move D s (s.putGate g ((s.gate g).rebind none polarity mode false))
  | levels (s : State) (levels : Byte) : Move D s (gatesSetReply levels s).1
  | create {s : State} {slot role : Byte} {b : FieldBlock} {k : SlotId} {r : Role} (map : BitVec 256)
      (ok : s.createCheck slot role b = .ok (k, r)) :
      Move D s (s.putWindow k { Window.create r b with activeMap := map })
  | modify {s : State} {k : SlotId} {select : Byte} {b : FieldBlock} (ok : s.modifyCheck k select b = none) :
      Move D s (s.modifyWindow k (Window.loadSelected (selectionOf select) b))
  | record {s : State} {k : SlotId} {w : Window} (adjusts : (s.window k).Adjusts s.drainLimit w) :
      Move D s (s.putWindow k w)
  | unit {s : State} {h : SlotId} {f : Window → Window} (own : s.owner h = h) (change : s.UnitChange h f) :
      Move D s (s.modifyWindows (s.unitSlots h) f)
  | tail {s : State} {k : SlotId} (member : (s.window k).isMember = true) (last : s.isStagedTail k = true) :
      Move D s (s.clearSlots [k])
  | alone {s : State} {k : SlotId} (opened : (s.window k).state = .opened) (head : (s.window k).isHead = false) :
      Move D s (s.modifyWindow k Window.freeze)
  | clear (s : State) : Move D s (s.clearSlots (List.finRange 64))
  | flip {s : State} {h : SlotId} (owns : s.OwnsOpen h) : Move D s (s.flipToggles h)

/-- The lease count that slot `h` owns falls by one, by a lookup or by a tick, before it is judged (R54, R66). -/
inductive State.Lowers (s : State) (h : SlotId) : State → Prop
  | use (mode : (s.window h).leaseMode = .uses) :
      Lowers s h (s.modifyWindow h fun w => { w with leaseCount := w.leaseCount - 1 })
  | tick : Lowers s h (s.countedUnit h)

/-- What happens to the windows and gates as a whole: a move, or the fall of a lease count with what follows from it. -/
inductive State.Event (D : Nat → Prop) : State → State → Prop
  | move {s t : State} (m : s.Move D t) : Event D s t
  | spared {s u : State} {h : SlotId} (owns : s.OwnsOpen h) (lowers : s.Lowers h u)
      (left : (u.window h).leaseMode ≠ .none → (u.window h).leaseCount = 0 → (s.window h).leaseCount = 0) : Event D s u
  | expired {s u : State} {h : SlotId} (owns : s.OwnsOpen h) (lowers : s.Lowers h u) : Event D s (u.expireLease h)

/-- A chain of moves. -/
abbrev State.Moves (D : Nat → Prop) : State → State → Prop := Relation.ReflTransGen (State.Move D)

/-- A chain of events. -/
abbrev State.Events (D : Nat → Prop) : State → State → Prop := Relation.ReflTransGen (State.Event D)

/-! #### What is kept -/

theorem State.Keeps.refl (s : State) : s.Keeps s := ⟨rfl, rfl, rfl⟩

theorem State.Keeps.trans {s t u : State} (h : s.Keeps t) (h' : t.Keeps u) : s.Keeps u :=
  ⟨h'.windows.trans h.windows, h'.gates.trans h.gates, h'.limit.trans h.limit⟩

theorem State.Keeps.window {s t : State} (h : s.Keeps t) (k : SlotId) : t.window k = s.window k := by
  rw [State.window, h.windows]; rfl

theorem State.Keeps.gate {s t : State} (h : s.Keeps t) (g : GateId) : t.gate g = s.gate g := by
  rw [State.gate, h.gates]; rfl

theorem State.Keeps.owner {s t : State} (h : s.Keeps t) (k : SlotId) : t.owner k = s.owner k :=
  State.owner_congr h.window k

theorem State.Keeps.unitSlots {s t : State} (h : s.Keeps t) (k : SlotId) : t.unitSlots k = s.unitSlots k :=
  State.unitSlots_congr h.window k

theorem State.Keeps.foldl {α : Type} {f : State → α → State} (one : ∀ (s : State) a, s.Keeps (f s a)) (as : List α)
    (s : State) : s.Keeps (as.foldl f s) := by
  induction as generalizing s with
  | nil => exact .refl s
  | cons a as ih => exact (one s a).trans (ih _)

/-- Writing one window of two states that agree on windows and gates, they still agree. -/
theorem State.Keeps.modifyWindow {s t : State} (h : s.Keeps t) (k : SlotId) (f : Window → Window) :
    (s.modifyWindow k f).Keeps (t.modifyWindow k f) := by
  refine ⟨?_, ?_, h.limit⟩
  · show t.windows.set k (f (t.window k)) = s.windows.set k (f (s.window k))
    rw [h.windows, h.window]
  · show tabulate 8 _ = tabulate 8 _
    simp only [h.window, h.gate]

theorem State.grantPass_keeps_tables (s : State) (k : SlotId) : s.Keeps (s.grantPass k) :=
  ⟨s.grantPass_windows k, s.grantPass_gates k, s.grantPass_drainLimit k⟩

theorem State.endWhere_keeps_tables (s : State) (p : Entry → Bool) (o : EOutcome) : s.Keeps (s.endWhere p o) :=
  ⟨s.endWhere_windows p o, s.endWhere_gates p o, s.endWhere_drainLimit p o⟩

theorem State.raise_keeps_tables (s : State) (c : Cause) : s.Keeps (s.raise c) := ⟨rfl, rfl, rfl⟩

theorem State.addExpired_keeps_tables (s : State) (h : SlotId) : s.Keeps (s.addExpired h) := ⟨rfl, rfl, rfl⟩

theorem State.putAgent_keeps_tables (s : State) (a : AgentId) (r : AgentRecord) : s.Keeps (s.putAgent a r) :=
  ⟨rfl, rfl, rfl⟩

theorem State.freeEntry_keeps_tables (s : State) (i : EntryId) : s.Keeps (s.freeEntry i) :=
  ⟨s.freeEntry_windows i, s.freeEntry_gates i, s.freeEntry_drainLimit i⟩

theorem State.refuseRequest_keeps_tables (s : State) (l : LaneId) (r : Request) (why : Reason) (slot : Option Byte) :
    s.Keeps (s.refuseRequest l r why slot) := by
  unfold State.refuseRequest State.capture
  split
  · exact ⟨rfl, rfl, rfl⟩
  · split <;> exact ⟨rfl, rfl, rfl⟩

/-! #### Building chains -/

section

variable {D : Nat → Prop} {s t u : State}

theorem State.Keeps.moves (h : s.Keeps t) : s.Moves D t := .single (.keep h)

theorem State.Move.moves (m : s.Move D t) : s.Moves D t := .single m

theorem State.Moves.events (h : s.Moves D t) : s.Events D t := h.lift id fun _ _ => .move

theorem State.Keeps.events (h : s.Keeps t) : s.Events D t := .single (.move (.keep h))

theorem State.Move.events (m : s.Move D t) : s.Events D t := .single (.move m)

theorem State.Events.kept (h : s.Events D t) (kept : t.Keeps u) : s.Events D u := h.trans kept.events

/-- A change of the unit of `h` where only other tables have changed since its slots were named. -/
theorem State.Keeps.unit {h : SlotId} {f : Window → Window} (kept : s.Keeps t) (own : s.owner h = h)
    (change : t.UnitChange h f) : s.Moves D (t.modifyWindows (s.unitSlots h) f) := by
  rw [← kept.unitSlots]
  exact kept.moves.trans (State.Move.unit (by rw [kept.owner, own]) change).moves

theorem State.Events.foldl {α : Type} {f : State → α → State} (one : ∀ (s : State) a, s.Events D (f s a)) (as : List α)
    (s : State) : s.Events D (as.foldl f s) := by
  induction as generalizing s with
  | nil => exact .refl
  | cons a as ih => exact (one s a).trans (ih _)

/-- An adjustment of every window of a list. -/
theorem State.records_events {f : Window → Window} (adjusts : ∀ limit (w : Window), w.Adjusts limit (f w))
    (ks : List SlotId) (s : State) : s.Events D (s.modifyWindows ks f) :=
  State.Events.foldl (f := fun t k => t.modifyWindow k f)
    (fun t k => (State.Move.record (adjusts t.drainLimit (t.window k))).events) ks s

/-! #### Retirement, expiry and loss (R69 to R72, R90, R107 to R109) -/

theorem State.goneUnit_moves {h : SlotId} (own : s.owner h = h) : s.Moves D (s.goneUnit h) :=
  (s.endWhere_keeps_tables _ _).unit own .free

theorem State.drainUnit_moves {h : SlotId} (own : s.owner h = h)
    (service : (s.window h).state = .opened ∨ (s.window h).state = .frozen) : s.Moves D (s.drainUnit h) := by
  have kept := s.endWhere_keeps_tables (fun e => e.state == .waiting && (s.unitSlots h).contains e.slot) .windowGone
  refine (kept.unit own (.drain (by rwa [kept.window]))).trans (State.Move.record ?_).moves
  have limit := Window.Adjusts.drainLoaded (limit := s.drainLimit)
  rw [State.modifyWindows_drainLimit, kept.limit]
  exact limit _

theorem State.retireUnit_moves {h : SlotId} (own : s.owner h = h) (force : Bool) :
    s.Moves D (s.retireUnit h force) := by
  unfold State.retireUnit
  split
  · rename_i drains
    exact State.drainUnit_moves own drains.1
  · exact State.goneUnit_moves own

theorem State.freezeUnit_moves {h : SlotId} (own : s.owner h = h) : s.Moves D (s.freezeUnit h) :=
  (State.Move.unit own .freeze).moves

/-- Adjusting records that keep their state and role keeps who owns an OPEN slot. -/
theorem State.OwnsOpen.of_states {h : SlotId} (owns : s.OwnsOpen h)
    (same : ∀ j, (t.window j).state = (s.window j).state ∧ (t.window j).role = (s.window j).role) : t.OwnsOpen h := by
  have owner := State.owner_congr_members (s := s) (t := t) fun j => by simp [Window.isMember, same]
  obtain ⟨own, k, mine, opened⟩ := owns
  exact ⟨by rw [owner, own], k, by rw [owner, mine], by rw [(same k).1, opened]⟩

theorem State.states_modifyWindow (s : State) (k : SlotId) {f : Window → Window}
    (same : (f (s.window k)).state = (s.window k).state ∧ (f (s.window k)).role = (s.window k).role) (j : SlotId) :
    ((s.modifyWindow k f).window j).state = (s.window j).state
      ∧ ((s.modifyWindow k f).window j).role = (s.window j).role := by
  rw [State.window_modifyWindow]
  split
  · rename_i e
    exact e ▸ same
  · exact ⟨rfl, rfl⟩

theorem State.states_modifyWindows {f : Window → Window}
    (same : ∀ w : Window, (f w).state = w.state ∧ (f w).role = w.role) (ks : List SlotId) (s : State) (j : SlotId) :
    ((s.modifyWindows ks f).window j).state = (s.window j).state
      ∧ ((s.modifyWindows ks f).window j).role = (s.window j).role :=
  State.modifyWindows_keeps
    (P := fun t => (t.window j).state = (s.window j).state ∧ (t.window j).role = (s.window j).role)
    (fun t k h => by
      obtain ⟨state, role⟩ := t.states_modifyWindow k (same (t.window k)) j
      exact ⟨state.trans h.1, role.trans h.2⟩) ks s ⟨rfl, rfl⟩

/-- The expiry action of the lease that slot `h` owns (R70 to R72). -/
def State.leaseAction (s : State) (h : SlotId) : State :=
  match (s.window h).expiryAction with
  | .reload => (s.modifyWindow h fun w => { w with leaseCount := w.leaseReload }).flipToggles h
  | .freeze => s.freezeUnit h
  | .retire => s.retireUnit h false

theorem State.expireLease_keeps_tables (s : State) (h : SlotId) : (s.leaseAction h).Keeps (s.expireLease h) :=
  (State.addExpired_keeps_tables _ h).trans (State.raise_keeps_tables _ .expired)

theorem State.leaseAction_moves {h : SlotId} (owns : s.OwnsOpen h) : s.Moves D (s.leaseAction h) := by
  unfold State.leaseAction
  split
  · have reload := Window.Adjusts.renew (limit := s.drainLimit) (s.window h) 0
    exact (State.Move.record reload).moves.trans
      (State.Move.flip (owns.of_states (s.states_modifyWindow h ⟨rfl, rfl⟩))).moves
  · exact State.freezeUnit_moves owns.1
  · exact State.retireUnit_moves owns.1 false

/-- The expiry of a lease, apart from the fall of its count. -/
theorem State.expireLease_moves {h : SlotId} (owns : s.OwnsOpen h) : s.Moves D (s.expireLease h) :=
  (State.leaseAction_moves owns).trans (s.expireLease_keeps_tables h).moves

theorem State.afterLoss_events (s : State) (k : SlotId) : s.Events D (s.afterLoss k) := by
  unfold State.afterLoss
  split
  · exact (s.grantPass_keeps_tables k).events
  · split
    · exact .refl
    · exact (State.Move.unit (s.owner_owner k) .free).events
  · exact .refl

theorem Window.countDown_states (w : Window) : w.countDown.state = w.state ∧ w.countDown.role = w.role := by
  unfold Window.countDown
  split <;> exact ⟨rfl, rfl⟩

/-- The fall of a lease count keeps every state and role. -/
theorem State.Lowers.states {h : SlotId} (lowers : s.Lowers h u) (j : SlotId) :
    (u.window j).state = (s.window j).state ∧ (u.window j).role = (s.window j).role := by
  cases lowers with
  | use mode => exact s.states_modifyWindow h ⟨rfl, rfl⟩ j
  | tick => exact State.states_modifyWindows Window.countDown_states _ s j

theorem State.Lowers.ownsOpen {h : SlotId} (lowers : s.Lowers h u) (owns : s.OwnsOpen h) : u.OwnsOpen h :=
  owns.of_states lowers.states

/-! #### A grant of a lookup (R53 to R55) -/

theorem Window.used_states (w : Window) : w.used.state = w.state ∧ w.used.role = w.role := by
  unfold Window.used
  split <;> exact ⟨rfl, rfl⟩

theorem State.grantLookup_events {k : SlotId} (opened : (s.window k).state = .opened) :
    s.Events D (s.grantLookup k) := by
  have usedUp : s.Events D (s.modifyWindow k Window.used) :=
    (State.Move.record (Window.Adjusts.used (s.window k))).events
  have owns : s.OwnsOpen (s.owner k) := ⟨s.owner_owner k, k, rfl, opened⟩
  have owns' := owns.of_states (s.states_modifyWindow k (s.window k).used_states)
  simp only [State.grantLookup]
  split
  · rename_i mode
    refine usedUp.trans (.single ?_)
    split
    · exact .expired owns' (.use mode)
    · rename_i left
      exact .spared owns' (.use mode) fun _ zero => absurd zero left
  · exact usedUp

end

end Sys2Proof.Machine

/-! ### The events of a tick, of a load and of each command -/

namespace Sys2Proof.Machine

/-! #### Roles -/

/-- No slot has taken a role but SOLO, the role of a FREE record. -/
def State.RolesFrom (s t : State) : Prop :=
  ∀ j, (t.window j).role = (s.window j).role ∨ (t.window j).role = .solo

theorem State.RolesFrom.trans {s t u : State} (h : s.RolesFrom t) (h' : t.RolesFrom u) : s.RolesFrom u := fun j =>
  (h' j).elim (fun same => (h j).imp same.trans same.trans) .inr

theorem State.Keeps.rolesFrom {s t : State} (h : s.Keeps t) : s.RolesFrom t := fun j => .inl (by rw [h.window])

theorem State.rolesFrom_modifyWindows {f : Window → Window}
    (role : ∀ w : Window, (f w).role = w.role ∨ (f w).role = .solo) (ks : List SlotId) (s : State) : s.RolesFrom (s.modifyWindows ks f) :=
  State.modifyWindows_keeps (P := fun t => s.RolesFrom t)
    (fun t k h => h.trans fun j => by
      rw [State.window_modifyWindow]
      split
      · rename_i e
        exact e ▸ role (t.window k)
      · exact .inl rfl) ks s fun _ => .inl rfl

theorem Window.freeze_role (w : Window) : w.freeze.role = w.role := by
  unfold Window.freeze
  split <;> rfl

theorem State.rolesFrom_freezeUnit (s : State) (h : SlotId) : s.RolesFrom (s.freezeUnit h) :=
  State.rolesFrom_modifyWindows (fun w => .inl w.freeze_role) _ s

theorem State.rolesFrom_modifyWindow {f : Window → Window}
    (role : ∀ w : Window, (f w).role = w.role ∨ (f w).role = .solo) (k : SlotId) (s : State) : s.RolesFrom (s.modifyWindow k f) :=
  State.rolesFrom_modifyWindows role [k] s

theorem State.rolesFrom_retireUnit (s : State) (h : SlotId) (force : Bool) : s.RolesFrom (s.retireUnit h force) := by
  unfold State.retireUnit
  split
  · have ended : s.RolesFrom (s.endWaits (s.unitSlots h)) := (s.endWhere_keeps_tables _ _).rolesFrom
    unfold State.drainUnit
    have drained := State.rolesFrom_modifyWindows (f := fun w => { w with state := .draining }) (fun _ => .inl rfl)
      (s.unitSlots h) (s.endWaits (s.unitSlots h))
    exact (ended.trans drained).trans
      (State.rolesFrom_modifyWindow (f := fun w => { w with drainCount := s.drainLimit }) (fun _ => .inl rfl) h _)
  · have ended : s.RolesFrom (s.endClaims (s.unitSlots h)) := (s.endWhere_keeps_tables _ _).rolesFrom
    exact ended.trans (State.rolesFrom_modifyWindows (fun _ => .inr rfl) _ _)

theorem State.rolesFrom_leaseAction (s : State) (h : SlotId) : s.RolesFrom (s.leaseAction h) := by
  unfold State.leaseAction
  split
  · exact State.rolesFrom_modifyWindow (f := fun w => { w with leaseCount := w.leaseReload }) (fun _ => .inl rfl) h s
  · exact s.rolesFrom_freezeUnit h
  · exact s.rolesFrom_retireUnit h false

theorem State.rolesFrom_leasedUnit (s : State) (h : SlotId) : s.RolesFrom (s.leasedUnit h) := by
  have counted : s.RolesFrom (s.countedUnit h) :=
    State.rolesFrom_modifyWindows (fun w => .inl w.countDown_states.2) _ s
  unfold State.leasedUnit
  split
  · exact counted.trans (((s.countedUnit h).rolesFrom_leaseAction h).trans
      ((s.countedUnit h).expireLease_keeps_tables h).rolesFrom)
  · exact counted

theorem State.rolesFrom_headedUnit (s : State) (h : SlotId) : s.RolesFrom (s.headedUnit h) := by
  unfold State.headedUnit
  split
  · exact ((s.rolesFrom_leasedUnit h).trans ((s.leasedUnit h).rolesFrom_freezeUnit h)).trans
      (State.raise_keeps_tables _ .idle).rolesFrom
  · exact s.rolesFrom_leasedUnit h

/-- A slot that holds no MEMBER comes to hold none. -/
theorem State.RolesFrom.alone {s t : State} (h : s.RolesFrom t) {k : SlotId} (role : (s.window k).role ≠ .member) :
    (t.window k).isMember = false :=
  Window.isMember_of_role ((h k).elim (fun same => same ▸ role) fun solo => by simp [solo])

/-! #### The Window Table's tick (R64 to R67, R89) -/

section

variable {D : Nat → Prop} {s t : State}

/-- A window that leaves the lease expiry in OPEN has a lease count that is not at 0, unless it was before. -/
theorem Window.countDown_left {w : Window} (opened : w.state = .opened) (kept : w.countDown.leaseOut = false)
    (mode : w.countDown.leaseMode ≠ .none) (zero : w.countDown.leaseCount = 0) : w.leaseCount = 0 := by
  cases m : w.leaseMode <;> simp_all [Window.countDown, Window.leaseOut]

theorem State.window_countedUnit (s : State) (h : SlotId) :
    (s.countedUnit h).window h = (s.window h).countDown :=
  s.window_modifyWindows_mem _ _ h (s.unitSlots_nodup h) (s.mem_unitSlots_self h)

theorem State.leasedUnit_events {h : SlotId} (alone : (s.window h).isMember = false)
    (opened : (s.window h).state = .opened) : s.Events D (s.leasedUnit h) := by
  have own := State.owner_self alone
  have owns : s.OwnsOpen h := ⟨own, h, own, opened⟩
  unfold State.leasedUnit
  rw [State.window_countedUnit]
  split
  · exact .single (.expired owns .tick)
  · rename_i kept
    refine .single (.spared owns .tick ?_)
    rw [State.window_countedUnit]
    exact Window.countDown_left opened (by simpa using kept)

theorem State.headedUnit_events {h : SlotId} (alone : (s.window h).isMember = false)
    (opened : (s.window h).state = .opened) : s.Events D (s.headedUnit h) := by
  have leased := State.leasedUnit_events (D := D) alone opened
  have role : (s.window h).role ≠ .member := fun member => by simp [Window.isMember, member, opened] at alone
  have own := State.owner_self ((s.rolesFrom_leasedUnit h).alone role)
  unfold State.headedUnit
  split
  · exact State.Events.kept (leased.trans (State.freezeUnit_moves own).events) (State.raise_keeps_tables _ .idle)
  · exact leased

theorem Window.idleOut_freeze (w : Window) : w.freeze.idleOut = false := by
  cases state : w.state <;> simp [Window.freeze, Window.idleOut, state]

/-- After its own idle expiry the head is not idle. -/
theorem State.headedUnit_idleOut (s : State) (h : SlotId) : ((s.headedUnit h).window h).idleOut = false := by
  unfold State.headedUnit
  split
  · have frozen := (s.leasedUnit h).window_modifyWindows_mem _ Window.freeze h ((s.leasedUnit h).unitSlots_nodup h)
      ((s.leasedUnit h).mem_unitSlots_self h)
    rw [State.idleOutUnit, State.raise_window, State.freezeUnit, frozen, Window.idleOut_freeze]
  · rename_i busy
    simpa using busy

/-- The idle expiries of the slots of a list, none of them a HEAD that is idle. -/
theorem State.idleOutAlone_events (ks : List SlotId) (s : State)
    (busy : ∀ j ∈ ks, (s.window j).isHead = true → (s.window j).idleOut = false) :
    s.Events D (ks.foldl (fun t k => if (t.window k).idleOut then t.idleOutAlone k else t) s) := by
  induction ks generalizing s with
  | nil => exact .refl
  | cons k ks ih =>
    rw [List.foldl_cons]
    split
    · rename_i idle
      have head : (s.window k).isHead = false := by
        by_contra head
        rw [busy k List.mem_cons_self (by simpa using head)] at idle
        cases idle
      have opened : (s.window k).state = .opened := by
        simp only [Window.idleOut, Bool.and_eq_true, beq_iff_eq] at idle
        exact idle.1.1
      have frozen : s.Events D (s.idleOutAlone k) :=
        (State.Move.alone opened head).events.kept (State.raise_keeps_tables _ .idle)
      refine frozen.trans (ih _ ?_)
      intro j mem isHead
      rw [State.idleOutAlone, State.raise_window, State.window_modifyWindow] at isHead ⊢
      split at isHead
      · rename_i e
        rw [if_pos e, Window.idleOut_freeze]
      · rename_i ne
        rw [if_neg ne]
        exact busy j (List.mem_cons_of_mem _ mem) isHead
    · exact ih s fun j mem => busy j (List.mem_cons_of_mem _ mem)

theorem State.tickOpen_events {h : SlotId} (alone : (s.window h).isMember = false)
    (opened : (s.window h).state = .opened) : s.Events D (s.tickOpen h) := by
  refine (State.headedUnit_events alone opened).trans (State.idleOutAlone_events _ _ fun j mem isHead => ?_)
  by_cases e : j = h
  · rw [e, s.headedUnit_idleOut]
  · have member := (Window.isMember_iff.mp (State.unitSlots_above mem e).1).2
    have role := (Window.isHead_iff.mp isHead).2
    rcases s.rolesFrom_headedUnit h j with same | solo
    · rw [same, member] at role
      cases role
    · rw [solo] at role
      cases role

theorem State.tickDraining_events {h : SlotId} (alone : (s.window h).isMember = false) :
    s.Events D (s.tickDraining h) := by
  have counted : s.Events D (s.modifyWindow h fun w => { w with drainCount := w.drainCount - 1 }) :=
    (State.Move.record (Window.Adjusts.drainCounted (s.window h))).events
  have own := State.owner_self (s := s.modifyWindow h fun w => { w with drainCount := w.drainCount - 1 }) (k := h)
    (by rw [State.window_modifyWindow_self]; exact alone)
  simp only [State.tickDraining]
  split
  · exact State.Events.kept (counted.trans (State.goneUnit_moves own).events) (State.raise_keeps_tables _ .drainForced)
  · exact counted

theorem State.tickUnit_events {h : SlotId} (alone : (s.window h).isMember = false) : s.Events D (s.tickUnit h) := by
  unfold State.tickUnit
  split
  · rename_i armed
    exact (State.Move.unit (State.owner_self alone) (.openAtTick armed)).events
  · rename_i opened
    exact State.tickOpen_events alone opened
  · exact State.tickDraining_events alone
  all_goals exact .refl

theorem State.windowTick_events (s : State) : s.Events D s.windowTick := by
  have taken : s.Events D { s with timebase := { s.timebase with windowTicks := s.timebase.windowTicks - 1 } } :=
    State.Keeps.events ⟨rfl, rfl, rfl⟩
  refine taken.trans (State.Events.foldl (fun t k => ?_) _ _)
  split
  · exact .refl
  · rename_i alone
    exact State.tickUnit_events (by simpa using alone)

/-! #### The Claim Unit's tick and the agents (R113, R133) -/

theorem State.endTimedOut_keeps_tables (s : State) : s.Keeps s.endTimedOut := by
  simp only [State.endTimedOut]
  split
  · exact (s.raise_keeps_tables _).trans ((State.endWhere_keeps_tables _ _ _).trans (State.endWhere_keeps_tables _ _ _))
  · exact (State.endWhere_keeps_tables _ _ _).trans (State.endWhere_keeps_tables _ _ _)

theorem State.claimTick_events (s : State) : s.Events D s.claimTick := by
  have counted : s.Keeps (State.mapEntries
      { s with timebase := { s.timebase with claimTicks := s.timebase.claimTicks - 1 } } Entry.countDown) :=
    ⟨rfl, rfl, rfl⟩
  have ended := counted.trans (State.endTimedOut_keeps_tables _)
  exact ended.events.trans (State.Events.foldl (fun t k => t.afterLoss_events k) _ _)

theorem State.loadAgent_events (s : State) (a : AgentId) (r : AgentRecord) : s.Events D (s.loadAgent a r) := by
  unfold State.loadAgent
  split
  · exact State.Keeps.events ⟨rfl, rfl, rfl⟩
  · have freed : s.Keeps (s.freeAgentEntries a) := State.Keeps.foldl (fun t i => by
      split
      · exact t.freeEntry_keeps_tables i
      · exact .refl t) _ _
    have loaded : s.Events D ((s.freeAgentEntries a).putAgent a { r with inUse := 0 }) :=
      (freed.trans (State.putAgent_keeps_tables _ a _)).events
    exact loaded.trans (State.Events.foldl (fun t k => t.afterLoss_events k) _ _)

/-! #### The load (R166 to R168) -/

theorem State.activateUnit_events {h : SlotId} (alone : (s.window h).isMember = false)
    (staged : (s.window h).state = .staged) : s.Events D (s.activateUnit h) :=
  (State.Move.unit (State.owner_self alone) (.activate staged)).events

theorem State.activateFlagged_events (flags : BitVec 64) (s : State) (k : SlotId) :
    s.Events D (s.activateFlagged flags k) := by
  unfold State.activateFlagged
  split
  · rename_i flagged
    exact State.activateUnit_events flagged.2.1 flagged.2.2
  · exact .refl

/-- The state at the end of a load with the held settings applied, if there are any. -/
def State.settingsApplied (s : State) : State :=
  match s.loader.settings with
  | none => s
  | some h => s.applySettings h

/-- The events of a load that succeeds, whose held settings carry a drain limit that may be loaded. -/
theorem State.loadSucceeded_events (held : ∀ h, s.loader.settings = some h → D h.drainLimit) :
    s.Events D s.loadSucceeded := by
  have applied : s.Events D s.settingsApplied := by
    unfold State.settingsApplied
    split
    · exact .refl
    · rename_i h settings
      exact State.Move.events (.limit (t := s.applySettings h) rfl rfl (held h settings))
  have activated := applied.trans
    (State.Events.foldl (State.activateFlagged_events s.loader.activateAtEnd) (List.finRange 64) s.settingsApplied)
  refine State.Events.kept activated ?_
  rcases settings : s.loader.settings with _ | h
  · simp only [State.loadSucceeded, State.settingsApplied, settings]
    exact ⟨rfl, rfl, rfl⟩
  · cases run : h.runAtEnd <;> simp only [State.loadSucceeded, State.settingsApplied, settings, run] <;>
      exact ⟨rfl, rfl, rfl⟩

theorem State.loadFailed_events (s : State) (f : LoadFault) : s.Events D (s.loadFailed f) :=
  State.Events.kept (State.Move.clear s).events ⟨by simp [State.loadFailed], by simp [State.loadFailed],
    by simp [State.loadFailed]⟩

theorem State.windowRecord_events (s : State) (index : Nat) (bytes : List Byte) :
    s.Events D (s.windowRecord index bytes) := by
  simp only [State.windowRecord]
  split
  · exact State.Keeps.events ⟨rfl, rfl, rfl⟩
  · rename_i ok
    split
    · exact State.Keeps.events ⟨rfl, rfl, rfl⟩
    · exact (State.Move.create (mapOfBytes (bytes.drop 32)) ok).events.kept ⟨rfl, rfl, rfl⟩

theorem State.agentRecord_events (s : State) (index : Nat) (bytes : List Byte) :
    s.Events D (s.agentRecord index bytes) := by
  simp only [State.agentRecord]
  split
  · exact State.Keeps.events ⟨rfl, rfl, rfl⟩
  · exact (s.loadAgent_events _ _).kept ⟨rfl, rfl, rfl⟩

end

end Sys2Proof.Machine

/-! ### The events of each command, and of a step -/

namespace Sys2Proof.Machine

/-! #### Commands, requests and events that are taken -/

theorem State.commandTaken_keeps_tables (s : State) (c : Instr) : s.Keeps (s.commandTaken c) := by
  unfold State.commandTaken
  split <;> exact ⟨rfl, rfl, rfl⟩

theorem State.complete_keeps_tables (s : State) (code : Byte) (r : Reply) : s.Keeps (s.complete code r) :=
  ⟨rfl, rfl, rfl⟩

theorem State.answerLane_keeps_tables (s : State) (l : LaneId) (a : Answer) : s.Keeps (s.answerLane l a) :=
  ⟨rfl, rfl, rfl⟩

section

variable {D : Nat → Prop} {s t : State}

theorem takeCommand_events {code : Byte} {c : Instr} {body : State → State × Reply}
    (h : takeCommand code c body s = .next t) (m : ∀ u : State, u.Events D (body u).1) : s.Events D t :=
  takeCommand_cases h .refl
    (State.Events.kept ((s.commandTaken_keeps_tables c).events.trans (m _)) (State.complete_keeps_tables _ _ _))

theorem takeRequest_events {c : Instr} {l : LaneId} {r : Request} {body : State → State}
    (h : takeRequest c l r body s = .next t) (m : ∀ u : State, u.Events D (body u)) : s.Events D t :=
  have granted : s.Events D (s.laneGranted l) := State.Keeps.events ⟨rfl, rfl, rfl⟩
  takeRequest_cases h .refl fun _ => granted.trans (m _)

theorem takeEvent_events {can : Bool} {effect : State} (h : takeEvent can effect s = .next t)
    (m : s.Events D effect) : s.Events D t :=
  takeEvent_cases h .refl fun _ => m

/-- An event that touches other tables alone. -/
theorem takeEvent_keeps {can : Bool} {effect : State} (h : takeEvent can effect s = .next t) (kept : s.Keeps effect) :
    s.Events D t :=
  takeEvent_events h kept.events

theorem State.withSlot_events {slot : Byte} {f : SlotId → State × Reply} (m : ∀ k, s.Events D (f k).1) :
    s.Events D (s.withSlot slot f).1 := by
  unfold State.withSlot
  split
  · exact .refl
  · exact m _

/-! #### The window and map commands -/

theorem windowCreateReply_events (slot role : Byte) (b : FieldBlock) (s : State) :
    s.Events D (windowCreateReply slot role b s).1 := by
  unfold windowCreateReply
  split
  · exact .refl
  · rename_i k r ok
    exact (State.Move.create (Window.create r b).activeMap ok).events

theorem windowModifyReply_events (slot select : Byte) (b : FieldBlock) (s : State) :
    s.Events D (windowModifyReply slot select b s).1 :=
  State.withSlot_events fun k => by
    split
    · exact .refl
    · rename_i ok
      exact (State.Move.modify ok).events

theorem activateReply_events (slot : Byte) (s : State) : s.Events D (activateReply slot s).1 :=
  State.withSlot_events fun k => by
    split
    · exact .refl
    · split
      · exact .refl
      · rename_i alone staged
        exact State.activateUnit_events (by simpa using alone) (by simpa using staged)

theorem disarmReply_events (slot : Byte) (s : State) : s.Events D (disarmReply slot s).1 :=
  State.withSlot_events fun k => by
    split
    · exact .refl
    · split
      · exact .refl
      · rename_i alone armed
        exact (State.Move.unit (State.owner_self (by simpa using alone)) (.disarm (by simpa using armed))).events

theorem freezeReply_events (slot : Byte) (s : State) : s.Events D (freezeReply slot s).1 :=
  State.withSlot_events fun k => by
    split
    · exact .refl
    · split
      · exact .refl
      · rename_i alone _
        exact (State.freezeUnit_moves (State.owner_self (by simpa using alone))).events

/-- A THAW of one slot writes its window and else changes no table of windows or gates. -/
theorem State.thawSlot_keeps_tables (s : State) (k : SlotId) :
    (s.modifyWindow k Window.thawed).Keeps (s.thawSlot k) := by
  unfold State.thawSlot
  split
  · rename_i frozen
    have thawed : (s.window k).thawed = (s.window k).thaw := if_pos frozen
    rw [show s.modifyWindow k Window.thawed = s.modifyWindow k Window.thaw from congrArg (s.putWindow k) thawed]
    exact State.grantPass_keeps_tables _ k
  · rename_i other
    have same : (s.window k).thawed = s.window k := if_neg other
    refine ⟨?_, ?_, rfl⟩
    · show s.windows = s.windows.set k (s.window k).thawed
      rw [same]
      simp [State.window]
    · show s.gates = tabulate 8 fun g => (s.gate g).report k (s.window k).state (s.window k).thawed.state
      rw [same]
      simpa [Gate.report, State.gate] using (tabulate_self s.gates).symm

/-- A THAW of several slots writes the window of each and else changes no table of windows or gates. -/
theorem State.foldl_thawSlot_keeps_tables (ks : List SlotId) (s u : State) (kept : u.Keeps s) :
    (u.modifyWindows ks Window.thawed).Keeps (ks.foldl State.thawSlot s) := by
  induction ks generalizing s u with
  | nil => exact kept
  | cons k ks ih => exact ih _ _ ((kept.modifyWindow k Window.thawed).trans (s.thawSlot_keeps_tables k))

theorem thawReply_events (slot : Byte) (s : State) : s.Events D (thawReply slot s).1 :=
  State.withSlot_events fun k => by
    split
    · exact .refl
    · split
      · exact .refl
      · rename_i alone _
        exact State.Events.kept (State.Move.unit (State.owner_self (by simpa using alone)) .thaw).events
          (State.foldl_thawSlot_keeps_tables _ s s (.refl s))

theorem renewReply_events (slot : Byte) (count : BitVec 16) (s : State) : s.Events D (renewReply slot count s).1 :=
  State.withSlot_events fun k => by
    split
    · exact .refl
    · split
      · exact .refl
      · split
        · exact .refl
        · exact (State.Move.record (Window.Adjusts.renew (s.window k) count)).events

theorem retireReply_events (slot force : Byte) (s : State) : s.Events D (retireReply slot force s).1 :=
  State.withSlot_events fun k => by
    split
    · exact .refl
    · split
      · rename_i member
        split
        · rename_i last
          have kept : s.Keeps (s.endClaims [k]) := s.endWhere_keeps_tables _ _
          refine kept.events.trans (State.Move.tail (by rwa [kept.window]) ?_).events
          simpa only [State.isStagedTail, kept.owner, kept.window] using last
        · exact .refl
      · rename_i alone
        split
        · exact .refl
        · exact (State.retireUnit_moves (State.owner_self (by simpa using alone)) _).events

theorem mapWriteReply_events (slot index : Byte) (word : Word32) (s : State) :
    s.Events D (mapWriteReply slot index word s).1 :=
  State.withSlot_events fun k => by
    simp only
    split
    · exact .refl
    · split
      · rename_i staged
        exact (State.Move.record (.writeActive _ staged)).events
      · exact (State.Move.record (.writeShadow _ _)).events
      · exact (State.Move.record (.writeShadow _ _)).events
      all_goals exact .refl

theorem mapCommitReply_events (slot : Byte) (s : State) : s.Events D (mapCommitReply slot s).1 :=
  State.withSlot_events fun k => by
    simp only
    split
    · exact (State.Move.record (.commit (s.window k))).events
    · exact .refl

/-! #### Commands of the other blocks -/

theorem agentSetReply_events (agent enabled cls lane quota : Byte) (s : State) :
    s.Events D (agentSetReply agent enabled cls lane quota s).1 := by
  unfold agentSetReply
  split
  · exact .refl
  · exact s.loadAgent_events _ _

theorem gateBindReply_events (gate bind slot polarity mode : Byte) (s : State) :
    s.Events D (gateBindReply gate bind slot polarity mode s).1 := by
  simp only [gateBindReply]
  split
  · exact .refl
  · split
    · exact .refl
    · split
      · split
        · exact .refl
        · exact (State.Move.bind s _ _ _ _).events
      · exact (State.Move.unbind s _ _ _).events

theorem settingsReply_events (limits : ∀ n, 1 ≤ n → n ≤ 255 → D n) (limit : Byte) (s : State) :
    s.Events D (settingsReply limit s).1 := by
  unfold settingsReply
  split
  · exact .refl
  · rename_i ne
    have loaded : D { s with drainLimit := limit.toNat }.drainLimit := limits limit.toNat (by bv_omega) (by omega)
    exact State.Move.events (.limit rfl rfl loaded)

theorem clearAllReply_events (s : State) : s.Events D (clearAllReply s).1 :=
  State.Events.kept (State.Move.clear s).events
    ⟨by simp [clearAllReply, State.clearTables], by simp [clearAllReply, State.clearTables],
      by simp [clearAllReply, State.clearTables]⟩

theorem agentQueryReply_fst (agent : Byte) (s : State) : (agentQueryReply agent s).1 = s := by
  unfold agentQueryReply
  split <;> rfl

theorem claimQueryReply_fst (entry : Byte) (s : State) : (claimQueryReply entry s).1 = s := by
  unfold claimQueryReply
  split <;> rfl

theorem mapReadReply_fst (slot index selector : Byte) (s : State) : (mapReadReply slot index selector s).1 = s := by
  unfold mapReadReply State.withSlot
  split
  · rfl
  · simp only
    split <;> rfl

theorem windowQueryReply_fst (slot : Byte) (s : State) : (windowQueryReply slot s).1 = s := by
  unfold windowQueryReply State.withSlot
  split <;> rfl

theorem timebaseReply_keeps (divider : BitVec 16) (flags run : Byte) (s : State) :
    s.Keeps (timebaseReply divider flags run s).1 := by
  unfold timebaseReply
  split <;> exact ⟨rfl, rfl, rfl⟩

theorem pulseSetReply_keeps (enables qualification : Byte) (s : State) :
    s.Keeps (pulseSetReply enables qualification s).1 := by
  unfold pulseSetReply
  split <;> exact ⟨rfl, rfl, rfl⟩

theorem reloadReply_keeps (s : State) : s.Keeps (reloadReply s).1 := by
  unfold reloadReply
  split <;> exact ⟨rfl, rfl, rfl⟩

theorem loadAbortReply_keeps (s : State) : s.Keeps (loadAbortReply s).1 := by
  unfold loadAbortReply
  split <;> exact ⟨rfl, rfl, rfl⟩

/-! #### Lane requests -/

/-- A lookup is granted on an OPEN window (R46 to R48). -/
theorem State.lookupVerdict_granted {l : LaneId} {r : Request} {access : ClaimKind} {k : SlotId}
    (h : s.lookupVerdict l r access = .granted k) : (s.window k).state = .opened := by
  unfold State.lookupVerdict at h
  split at h
  · cases h
  split at h
  · cases h
  split at h
  · cases h
  rename_i j selected
  split at h
  · cases h
  rename_i passes
  cases h
  have selectable := List.find?_some selected
  simp only [Window.selectable, Bool.and_eq_true, Bool.or_eq_true, beq_iff_eq] at selectable
  simp only [State.accessCheck] at passes
  split at passes
  · cases passes
  split at passes
  · cases passes
  rename_i frozen draining
  exact (selectable.1.resolve_right draining).resolve_right frozen

theorem State.lookup_events (l : LaneId) (r : Request) (access : ClaimKind) (s : State) :
    s.Events D (s.lookup l r access) := by
  unfold State.lookup
  split
  · exact (s.refuseRequest_keeps_tables _ _ _ _).events
  · rename_i granted
    exact State.Events.kept (State.grantLookup_events (State.lookupVerdict_granted granted))
      (State.answerLane_keeps_tables _ _ _)

theorem State.claim_keeps (l : LaneId) (r : Request) (kind : ClaimKind) (s : State) : s.Keeps (s.claim l r kind) := by
  unfold State.claim
  split
  · exact s.refuseRequest_keeps_tables _ _ _ _
  · unfold State.decideClaim
    split
    · exact s.answerLane_keeps_tables _ _
    · split
      · exact s.refuseRequest_keeps_tables _ _ _ _
      · split <;> exact ⟨rfl, rfl, rfl⟩

theorem State.releaseHeld_events (i : EntryId) (k : SlotId) (s : State) : s.Events D (s.releaseHeld i k) :=
  ((State.Move.record (.released (s.window k) _)).events.trans (State.freeEntry_keeps_tables _ i).events).trans
    (State.afterLoss_events _ k)

theorem State.withdraw_keeps (i : EntryId) (k : SlotId) (s : State) : s.Keeps (s.withdraw i k) := by
  unfold State.withdraw
  split
  · exact (s.freeEntry_keeps_tables i).trans (State.grantPass_keeps_tables _ k)
  · exact s.freeEntry_keeps_tables i

theorem State.releaseOnLane_events (l : LaneId) (r : Request) (s : State) : s.Events D (s.releaseOnLane l r) := by
  unfold State.releaseOnLane
  split
  · exact (s.refuseRequest_keeps_tables _ _ _ _).events
  · split
    · exact (s.refuseRequest_keeps_tables _ _ _ _).events
    · split
      · exact State.Events.kept (State.releaseHeld_events _ _ s) (State.answerLane_keeps_tables _ _ _)
      · exact ((State.withdraw_keeps _ _ s).trans (State.answerLane_keeps_tables _ _ _)).events

theorem State.renewOnLane_events (l : LaneId) (r : Request) (s : State) : s.Events D (s.renewOnLane l r) := by
  unfold State.renewOnLane
  split
  · exact (s.refuseRequest_keeps_tables _ _ _ _).events
  · rename_i k _
    exact State.Events.kept (State.Move.record (.renew (s.window k) r.renewCount)).events
      (State.answerLane_keeps_tables _ _ _)

/-! #### Pulses and expiries -/

theorem State.putPair_keeps_tables (s : State) (p : PulsePair) (x : PairState) : s.Keeps (s.putPair p x) := by
  cases p <;> exact ⟨rfl, rfl, rfl⟩

theorem State.restart_events (p : PulsePair) (s : State) : s.Events D (s.restart p) :=
  (s.putPair_keeps_tables p _).events.trans (State.records_events (fun _ w => .restart w p) _ _)

theorem State.advance_events (p : PulsePair) (s : State) : s.Events D (s.advance p) := by
  have moved : s.Events D ((s.putPair p { s.pair p with advances := (s.pair p).advances - 1 }).modifyWindows
      (List.finRange 64) (Window.advance p)) :=
    (s.putPair_keeps_tables p _).events.trans (State.records_events (fun _ w => .advance w p) _ _)
  simp only [State.advance]
  split
  · exact State.Events.kept moved (State.raise_keeps_tables _ _)
  · exact moved

theorem State.sampleLine_keeps (line : PulseLine) (high : Bool) (s : State) : s.Keeps (s.sampleLine line high) := by
  cases line <;> exact ⟨rfl, rfl, rfl⟩

theorem execLeaseExpiry_events {k : SlotId} (h : execLeaseExpiry k s = .next t) : s.Events D t := by
  unfold execLeaseExpiry at h
  split at h
  · rename_i l r access _
    have granted : s.Events D (s.granted (laneRequester l)) := State.Keeps.events ⟨rfl, rfl, rfl⟩
    exact takeEvent_events h (granted.trans (State.lookup_events l r access _))
  · exact takeEvent_events h s.windowTick_events

theorem execResetRelease_keeps {loaden : Bool} {imga : BitVec 3} (h : execResetRelease loaden imga s = .next t) :
    s.Keeps t := by
  unfold execResetRelease at h
  split at h
  · cases h
    cases loaden <;> exact ⟨rfl, rfl, rfl⟩
  · cases h
    exact .refl s

theorem reset_window (k : SlotId) : State.reset.window k = Window.free := by
  simp [State.window, State.reset]

theorem reset_gate (g : GateId) : State.reset.gate g = Gate.reset := by
  simp [State.gate, State.reset]

/-! #### A command and a step -/

/-- Every command is a chain of events. -/
theorem exec_events (limits : ∀ n, 1 ≤ n → n ≤ 255 → D n)
    (held : ∀ h, s.loader.settings = some h → D h.drainLimit) {c : Instr} (h : exec c s = .next t) : s.Events D t := by
  cases c with
  | deviceReset =>
    cases h
    exact State.Move.events (.reset (t := { State.reset with naks := s.naks, pending := s.pending }) reset_window
      reset_gate (limits 16 (by decide) (by decide)))
  | resetRelease loaden imga => exact (execResetRelease_keeps h).events
  | frameStart => exact takeEvent_keeps h ⟨rfl, rfl, rfl⟩
  | frameEnd bits extra => exact takeEvent_keeps h ⟨rfl, rfl, rfl⟩
  | readResponse bits => exact takeEvent_keeps h ⟨rfl, rfl, rfl⟩
  | status => exact takeCommand_events h fun _ => .refl
  | agentSet a e c l q => exact takeCommand_events h (agentSetReply_events a e c l q)
  | agentQuery a => exact takeCommand_events h fun u => by rw [agentQueryReply_fst]
  | windowCreate slot role b => exact takeCommand_events h (windowCreateReply_events slot role b)
  | windowModify slot select b => exact takeCommand_events h (windowModifyReply_events slot select b)
  | windowQuery slot => exact takeCommand_events h fun u => by rw [windowQueryReply_fst]
  | activate slot => exact takeCommand_events h (activateReply_events slot)
  | disarm slot => exact takeCommand_events h (disarmReply_events slot)
  | freeze slot => exact takeCommand_events h (freezeReply_events slot)
  | thaw slot => exact takeCommand_events h (thawReply_events slot)
  | renew slot count => exact takeCommand_events h (renewReply_events slot count)
  | retire slot force => exact takeCommand_events h (retireReply_events slot force)
  | mapWrite slot index word => exact takeCommand_events h (mapWriteReply_events slot index word)
  | mapRead slot index selector => exact takeCommand_events h fun u => by rw [mapReadReply_fst]
  | mapCommit slot => exact takeCommand_events h (mapCommitReply_events slot)
  | claimQuery e => exact takeCommand_events h fun u => by rw [claimQueryReply_fst]
  | clearAll => exact takeCommand_events h clearAllReply_events
  | timebase divider flags run => exact takeCommand_events h fun u => (timebaseReply_keeps divider flags run u).events
  | settings limit => exact takeCommand_events h (settingsReply_events limits limit)
  | pulseSet e q => exact takeCommand_events h fun u => (pulseSetReply_keeps e q u).events
  | gateBind g b k p m => exact takeCommand_events h (gateBindReply_events g b k p m)
  | gatesSet levels => exact takeCommand_events h fun u => (State.Move.levels u levels).events
  | attentionEnable e => exact takeCommand_events h fun u => State.Keeps.events ⟨rfl, rfl, rfl⟩
  | ack causes slots => exact takeCommand_events h fun u => State.Keeps.events ⟨rfl, rfl, rfl⟩
  | readExpired => exact takeCommand_events h fun u => .refl
  | reportRead => exact takeCommand_events h fun u => .refl
  | reportClear => exact takeCommand_events h fun u => State.Keeps.events ⟨rfl, rfl, rfl⟩
  | reload => exact takeCommand_events h fun u => (reloadReply_keeps u).events
  | loadAbort => exact takeCommand_events h fun u => (loadAbortReply_keeps u).events
  | requestTake l word => exact takeEvent_keeps h ⟨rfl, rfl, rfl⟩
  | requestWithdraw l => exact takeEvent_keeps h ⟨rfl, rfl, rfl⟩
  | lookupRead l r =>
    exact takeRequest_events (c := .lookupRead l r) (l := l) (r := r) (body := fun u => u.lookup l r .read) h
      (State.lookup_events l r .read)
  | lookupWrite l r =>
    exact takeRequest_events (c := .lookupWrite l r) (l := l) (r := r) (body := fun u => u.lookup l r .write) h
      (State.lookup_events l r .write)
  | claimRead l r =>
    exact takeRequest_events (c := .claimRead l r) (l := l) (r := r) (body := fun u => u.claim l r .read) h
      fun u => (State.claim_keeps l r .read u).events
  | claimWrite l r =>
    exact takeRequest_events (c := .claimWrite l r) (l := l) (r := r) (body := fun u => u.claim l r .write) h
      fun u => (State.claim_keeps l r .write u).events
  | release l r =>
    exact takeRequest_events (c := .release l r) (l := l) (r := r) (body := fun u => u.releaseOnLane l r) h
      (State.releaseOnLane_events l r)
  | renewRequest l r =>
    exact takeRequest_events (c := .renewRequest l r) (l := l) (r := r) (body := fun u => u.renewOnLane l r) h
      (State.renewOnLane_events l r)
  | badKind l r =>
    exact takeRequest_events (c := .badKind l r) (l := l) (r := r) (body := fun u => u.answerBadKind l r) h
      fun u => (u.refuseRequest_keeps_tables l r _ none).events
  | answerOffer l => exact takeEvent_keeps h ⟨rfl, rfl, rfl⟩
  | noticeDelivery l =>
    simp only [exec, execNoticeDelivery] at h
    split at h
    · cases h
      exact .refl
    · exact takeEvent_keeps h ⟨rfl, rfl, rfl⟩
  | messageTaken l => exact takeEvent_keeps h ⟨rfl, rfl, rfl⟩
  | tick => exact takeEvent_keeps h ⟨rfl, rfl, rfl⟩
  | windowTick => exact takeEvent_events h s.windowTick_events
  | leaseExpiry k => exact execLeaseExpiry_events h
  | idleExpiry k => exact takeEvent_events h s.windowTick_events
  | drainExpiry k => exact takeEvent_events h s.windowTick_events
  | claimTick => exact takeEvent_events h s.claimTick_events
  | revocation i => exact takeEvent_events h s.claimTick_events
  | waitExpiry i => exact takeEvent_events h s.claimTick_events
  | restart p => exact takeEvent_events h (State.restart_events p s)
  | advance p => exact takeEvent_events h (State.advance_events p s)
  | busCheck n => exact takeEvent_keeps h ⟨rfl, rfl, rfl⟩
  | addressNak => exact takeEvent_keeps h ⟨rfl, rfl, rfl⟩
  | offsetNak => exact takeEvent_keeps h ⟨rfl, rfl, rfl⟩
  | busHeld => exact takeEvent_keeps h ⟨rfl, rfl, rfl⟩
  | imageHeader bytes => exact takeEvent_keeps h ⟨rfl, rfl, rfl⟩
  | settingsRecord bytes => exact takeEvent_keeps h ⟨rfl, rfl, rfl⟩
  | agentRecord bytes =>
    simp only [exec, execAgentRecord] at h
    split at h
    · cases h
      exact .refl
    · exact takeEvent_events h (s.agentRecord_events _ bytes)
  | windowRecord bytes =>
    simp only [exec, execWindowRecord] at h
    split at h
    · cases h
      exact .refl
    · exact takeEvent_events h (s.windowRecord_events _ bytes)
  | loadSuccess => exact takeEvent_events h (State.loadSucceeded_events held)
  | loadFailure =>
    simp only [exec, execLoadFailure] at h
    split at h
    · cases h
      exact .refl
    · exact takeEvent_events h (s.loadFailed_events _)
  | pulseLineSample line high => exact takeEvent_keeps h (State.sampleLine_keeps line high s)
  | requestWord l word => exact takeEvent_keeps h ⟨rfl, rfl, rfl⟩
  | shiftOutCopy => exact takeEvent_keeps h ⟨rfl, rfl, rfl⟩

/-- Every step is a chain of events: the Timebase's, or the front command's. -/
theorem step_events (limits : ∀ n, 1 ≤ n → n ≤ 255 → D n)
    (held : ∀ h, s.loader.settings = some h → D h.drainLimit) (h : step s = .next t) : s.Events D t := by
  unfold step at h
  split at h
  · cases h
    unfold State.idleStep
    split
    · exact .refl
    · exact State.Keeps.events ⟨rfl, rfl, rfl⟩
  · rename_i c rest _
    have popped : s.Events D { s with pending := rest } := State.Keeps.events ⟨rfl, rfl, rfl⟩
    exact popped.trans (exec_events limits held h)

/-- What every move keeps, every chain of moves keeps. -/
theorem State.Moves.keeps {P : State → Prop} (one : ∀ {s t : State}, s.Move D t → P s → P t) (h : s.Moves D t)
    (start : P s) : P t := by
  induction h with
  | refl => exact start
  | tail _ last ih => exact one last ih

/-- What every event keeps, every chain of events keeps. -/
theorem State.Events.keeps {P : State → Prop} (one : ∀ {s t : State}, s.Event D t → P s → P t) (h : s.Events D t)
    (start : P s) : P t := by
  induction h with
  | refl => exact start
  | tail _ last ih => exact one last ih

/-- What every move and every fall of a lease count keeps, every chain of events keeps: the action of an expiry is a
chain of moves. -/
theorem State.Events.keeps_of_moves {P : State → Prop} (move : ∀ {s t : State}, s.Move D t → P s → P t)
    (lowers : ∀ {s u : State} {h : SlotId}, s.Lowers h u → P s → P u) (events : s.Events D t) (start : P s) : P t :=
  events.keeps (start := start) fun event p => by
    cases event with
    | move m => exact move m p
    | spared owns low left => exact lowers low p
    | expired owns low => exact State.Moves.keeps move (State.expireLease_moves (low.ownsOpen owns)) (lowers low p)

end

end Sys2Proof.Machine

/-! ### The gates follow their slots (R24, R70, R144 to R146) -/

namespace Sys2Proof.Machine

/-! #### One gate -/

@[simp] theorem Gate.report_binding (k : SlotId) (old new : WState) (x : Gate) :
    (x.report k old new).binding = x.binding := by
  unfold Gate.report
  split
  · split
    · rfl
    · split <;> rfl
  · rfl

@[simp] theorem Gate.report_mode (k : SlotId) (old new : WState) (x : Gate) : (x.report k old new).mode = x.mode := by
  unfold Gate.report
  split
  · split
    · rfl
    · split <;> rfl
  · rfl

/-- The report of another slot leaves the gate as it is. -/
theorem Gate.report_other {x : Gate} {k : SlotId} (other : x.binding ≠ some k) (old new : WState) :
    x.report k old new = x :=
  if_neg fun both => other both.1

theorem Gate.report_level {x : Gate} {k : SlotId} {old new : WState} (bound : x.binding = some k)
    (level : x.mode = .level) (follows : x.active = true ↔ old = .opened) :
    (x.report k old new).active = true ↔ new = .opened := by
  by_cases same : old = new
  · rw [Gate.report, if_neg fun both => both.2 same, follows, same]
  · rw [Gate.report, if_pos ⟨bound, same⟩, level]
    exact beq_iff_eq

theorem Gate.report_toggle {x : Gate} {k : SlotId} {old new : WState} (bound : x.binding = some k)
    (toggle : x.mode = .toggle) (quiet : x.active = true → old = .opened)
    (active : (x.report k old new).active = true) : new = .opened := by
  by_cases same : old = new
  · rw [Gate.report, if_neg fun both => both.2 same] at active
    exact same ▸ quiet active
  · rw [Gate.report, if_pos ⟨bound, same⟩, toggle] at active
    simp only at active
    split at active
    · cases active
    · rename_i outside
      exact absurd (.inl (quiet active)) outside

@[simp] theorem Gate.flip_binding (k : SlotId) (x : Gate) : (x.flip k).binding = x.binding := by
  unfold Gate.flip
  split <;> rfl

@[simp] theorem Gate.flip_mode (k : SlotId) (x : Gate) : (x.flip k).mode = x.mode := by
  unfold Gate.flip
  split <;> rfl

/-- A flip reaches the TOGGLE gates of the slot alone. -/
theorem Gate.flip_other {x : Gate} {k : SlotId} (other : x.binding = some k → x.mode ≠ .toggle) : x.flip k = x :=
  if_neg fun both => other both.1 both.2

/-! #### The gates of the part -/

/-- The gates follow their slots: each unbound gate is INACTIVE, each LEVEL gate ACTIVE exactly while its slot is
OPEN. -/
theorem gatesFollow_iff {s : State} :
    GatesFollow s ↔ (∀ g, (s.gate g).binding = none → (s.gate g).active = false)
      ∧ ∀ g k, (s.gate g).binding = some k → (s.gate g).mode = .level →
          ((s.gate g).active = true ↔ (s.window k).state = .opened) := by
  constructor
  · intro follow
    refine ⟨fun g unbound => ?_, fun g k bound => ?_⟩
    · have here := follow g
      rwa [unbound] at here
    · have here := follow g
      rwa [bound] at here
  · rintro ⟨unbound, level⟩ g
    split
    · rename_i none
      exact unbound g none
    · rename_i k bound
      exact level g k bound

/-- A change of gates and windows that gives each gate's binding and mode back, and its phase as it follows. -/
theorem GatesFollow.of_same {s t : State} (follow : GatesFollow s) (gates : ∀ g, (t.gate g).binding = (s.gate g).binding
      ∧ (t.gate g).mode = (s.gate g).mode ∧ ((s.gate g).mode = .level ∨ (s.gate g).binding = none →
        (t.gate g).active = (s.gate g).active))
    (states : ∀ k, (t.window k).state = (s.window k).state) : GatesFollow t := by
  rw [gatesFollow_iff] at follow ⊢
  obtain ⟨unbound, level⟩ := follow
  refine ⟨fun g none => ?_, fun g k bound isLevel => ?_⟩
  · obtain ⟨binding, mode, active⟩ := gates g
    rw [binding] at none
    rw [active (.inr none), unbound g none]
  · obtain ⟨binding, mode, active⟩ := gates g
    rw [binding] at bound
    rw [mode] at isLevel
    rw [active (.inl isLevel), states, level g k bound isLevel]

/-- Writing a window record reports its change of state, and the gates follow it. -/
theorem GatesFollow.putWindow {s : State} (follow : GatesFollow s) (k : SlotId) (w : Window) :
    GatesFollow (s.putWindow k w) := by
  rw [gatesFollow_iff] at follow ⊢
  obtain ⟨unbound, level⟩ := follow
  refine ⟨fun g none => ?_, fun g j bound isLevel => ?_⟩
  · rw [State.gate_putWindow, Gate.report_binding] at none
    rw [State.gate_putWindow, Gate.report_other (by simp [none]), unbound g none]
  · rw [State.gate_putWindow, Gate.report_binding] at bound
    rw [State.gate_putWindow, Gate.report_mode] at isLevel
    rw [State.gate_putWindow, State.window_putWindow]
    split
    · rename_i e
      subst e
      exact Gate.report_level bound isLevel (level g k bound isLevel)
    · rename_i ne
      rw [Gate.report_other (by simpa [bound] using Ne.symm ne)]
      exact level g j bound isLevel

theorem GatesFollow.modifyWindows {s : State} (follow : GatesFollow s) (ks : List SlotId) (f : Window → Window) :
    GatesFollow (s.modifyWindows ks f) :=
  State.modifyWindows_keeps (fun _ _ h => h.putWindow _ _) ks s follow

/-- Binding or unbinding one gate, its phase set as it follows. -/
theorem GatesFollow.putGate {s : State} (follow : GatesFollow s) (g : GateId) {x : Gate}
    (unbound : x.binding = none → x.active = false)
    (level : ∀ k, x.binding = some k → x.mode = .level → (x.active = true ↔ (s.window k).state = .opened)) :
    GatesFollow (s.putGate g x) := by
  rw [gatesFollow_iff] at follow ⊢
  refine ⟨fun i => ?_, fun i k => ?_⟩
  · rw [State.gate_putGate]
    split
    · exact unbound
    · exact follow.1 i
  · rw [State.gate_putGate]
    split
    · exact level k
    · exact follow.2 i k

theorem gate_levels (s : State) (levels : Byte) (g : GateId) :
    (gatesSetReply levels s).1.gate g
      = if (s.gate g).binding = none then { s.gate g with unboundHigh := levels.getLsbD g.val } else s.gate g :=
  tabulate_get 8 _ g

/-- Every move keeps the gates following their slots. -/
theorem GatesFollow.move {D : Nat → Prop} {s t : State} (m : s.Move D t) (follow : GatesFollow s) : GatesFollow t := by
  cases m with
  | keep kept =>
    exact follow.of_same (fun g => by simp [kept.gate]) fun k => by rw [kept.window]
  | limit windows gates =>
    exact follow.of_same (fun g => by simp [State.gate, gates]) fun k => by simp [State.window, windows]
  | reset windows gates =>
    exact gatesFollow_iff.mpr ⟨fun g _ => by rw [gates]; rfl, fun g k bound => by simp [gates, Gate.reset] at bound⟩
  | bind g k polarity mode =>
    refine follow.putGate g (fun none => by cases none) fun j bound level => ?_
    cases bound
    simp only [Gate.rebind] at level ⊢
    simp [level]
  | unbind g polarity mode => exact follow.putGate g (fun _ => rfl) fun k bound => by cases bound
  | levels levels =>
    refine follow.of_same (fun g => ?_) fun _ => rfl
    rw [gate_levels]
    split <;> exact ⟨rfl, rfl, fun _ => rfl⟩
  | create map ok => exact follow.putWindow _ _
  | modify ok => exact follow.putWindow _ _
  | record adjusts => exact follow.putWindow _ _
  | unit own change => exact follow.modifyWindows _ _
  | tail member last => exact follow.modifyWindows _ _
  | alone opened head => exact follow.putWindow _ _
  | clear => exact follow.modifyWindows _ _
  | flip owns =>
    refine follow.of_same (fun g => ⟨by simp, by simp, fun kind => ?_⟩) fun _ => rfl
    rw [State.gate_flipToggles, Gate.flip_other fun bound toggle => ?_]
    rcases kind with level | unbound
    · rw [level] at toggle
      cases toggle
    · rw [bound] at unbound
      cases unbound

theorem GatesFollow.lowers {s u : State} {h : SlotId} (low : s.Lowers h u) (follow : GatesFollow s) :
    GatesFollow u := by
  cases low with
  | use mode => exact follow.putWindow _ _
  | tick => exact follow.modifyWindows _ _

/-- Settles O54: each step is a chain of moves of windows and gates, and each keeps the gates following. -/
theorem stepsKeepGatesFollowing : Obligations.StepsKeepGatesFollowing := by
  intro s t follow stepped
  have events : s.Events (fun _ => True) t := step_events (fun _ _ _ => trivial) (fun _ _ => trivial) stepped
  exact events.keeps_of_moves GatesFollow.move GatesFollow.lowers follow

end Sys2Proof.Machine

/-! ### The groups stay whole, and TOGGLE gates are INACTIVE outside OPEN (R24, R80, R81, R145) -/

namespace Sys2Proof.Machine

/-! #### What a move does to states and roles -/

theorem Window.Adjusts.states {limit : Nat} {w v : Window} (adjusts : w.Adjusts limit v) :
    v.state = w.state ∧ v.role = w.role := by
  cases adjusts with
  | used => exact w.used_states
  | commit => unfold Window.commit; split <;> exact ⟨rfl, rfl⟩
  | restart p =>
    unfold Window.restart
    split
    · split
      · exact ⟨rfl, rfl⟩
      · simp only [Window.commit]
        split
        · split <;> exact ⟨rfl, rfl⟩
        · exact ⟨rfl, rfl⟩
    · exact ⟨rfl, rfl⟩
  | advance p =>
    unfold Window.advance
    split
    · split
      · exact ⟨rfl, rfl⟩
      · split <;> exact ⟨rfl, rfl⟩
    · exact ⟨rfl, rfl⟩
  | renew | writeActive | writeShadow | released | drainLoaded | drainCounted => exact ⟨rfl, rfl⟩

theorem Window.loadSelected_states (x : Selection) (b : FieldBlock) (w : Window) :
    (w.loadSelected x b).state = w.state ∧ (w.loadSelected x b).role = w.role := by
  rw [Window.loadSelected_eq]
  exact ⟨rfl, rfl⟩

theorem State.states_putWindow (s : State) (k : SlotId) {w : Window}
    (same : w.state = (s.window k).state ∧ w.role = (s.window k).role) (j : SlotId) :
    ((s.putWindow k w).window j).state = (s.window j).state ∧ ((s.putWindow k w).window j).role = (s.window j).role :=
  s.states_modifyWindow k (f := fun _ => w) same j

/-- What the checks of an accepted WINDOW CREATE say (R13, R82). -/
theorem State.createCheck_eq_ok {s : State} {slot role : Byte} {b : FieldBlock} {k : SlotId} {r : Role}
    (ok : s.createCheck slot role b = .ok (k, r)) :
    (s.window k).state = .free ∧ (r = .member → s.memberCheck k = none) ∧ b.check = none := by
  unfold State.createCheck at ok
  split at ok
  · cases ok
  split at ok
  · cases ok
  split at ok
  · cases ok
  rename_i free
  split at ok
  · cases ok
  rename_i passes
  split at ok
  · cases ok
  split at ok
  · cases ok
  rename_i fields
  cases ok
  exact ⟨by simpa using free, fun member => by rwa [if_pos member] at passes, fields⟩

theorem Window.activate_role (mode : LeaseMode) (w : Window) : (w.activate mode).role = w.role := by
  cases mode <;> rcases walk : w.walk with _ | k <;> simp [Window.activate, walk]

theorem Window.activate_state (mode : LeaseMode) (w : Window) :
    (w.activate mode).state = if mode = .timed then .armed else .opened := by
  cases mode <;> rfl

theorem Window.openAtTick_role (w : Window) : w.openAtTick.role = w.role := by
  unfold Window.openAtTick
  split <;> rfl

theorem Window.openAtTick_state {w : Window} (armed : w.state = .armed) : w.openAtTick.state = .opened := by
  rw [Window.openAtTick, if_pos armed]

theorem Window.state_freeze (w : Window) : w.freeze.state = if w.state = .opened then .frozen else w.state := by
  unfold Window.freeze
  split <;> rfl

theorem Window.thawed_role (w : Window) : w.thawed.role = w.role := by
  unfold Window.thawed
  split <;> rfl

theorem Window.state_thawed (w : Window) : w.thawed.state = if w.state = .frozen then .opened else w.state := by
  unfold Window.thawed
  split <;> rfl

/-! #### The states of a unit -/

section

variable {D : Nat → Prop} {s t : State} {h : SlotId}

/-- Every slot of a unit agrees with its owner. -/
theorem GroupsAgree.unit_agrees (g : GroupsAgree s) (own : s.owner h = h) {j : SlotId} (mem : j ∈ s.unitSlots h) :
    (s.window j).state.Agrees (s.window h).state := by
  have head := (g.mem_unitSlots_iff own).mp mem
  by_cases member : (s.window j).isMember = true
  · have agrees := (g j member).2.2
    rwa [head] at agrees
  · rw [State.owner_self (by simpa using member)] at head
    exact .inl (by rw [head])

/-- The members of a unit whose owner is not OPEN are in its state. -/
theorem GroupsAgree.unit_state (g : GroupsAgree s) (own : s.owner h = h) (closed : (s.window h).state ≠ .opened)
    {j : SlotId} (mem : j ∈ s.unitSlots h) : (s.window j).state = (s.window h).state :=
  (g.unit_agrees own mem).resolve_right fun both => closed both.2

/-- The owner of an OPEN slot is OPEN (R81). -/
theorem GroupsAgree.opened_of_ownsOpen (g : GroupsAgree s) (owns : s.OwnsOpen h) : (s.window h).state = .opened := by
  obtain ⟨own, k, mine, opened⟩ := owns
  have agrees := g.unit_agrees own ((g.mem_unitSlots_iff own).mpr mine)
  rw [opened] at agrees
  exact agrees.elim (fun same => same.symm) fun both => both.2

/-- The windows of a unit that is not FREE go to one state together. -/
theorem GroupsAgree.unitBecomes (g : GroupsAgree s) (own : s.owner h = h) {f : Window → Window} {c : WState}
    (role : ∀ w : Window, (f w).role = w.role) (state : ∀ j ∈ s.unitSlots h, (f (s.window j)).state = c)
    (becomes : c ≠ .free) (live : (s.window h).state ≠ .free) : GroupsAgree (s.modifyWindows (s.unitSlots h) f) := by
  refine g.unit own (fun _ => c) (fun j _ => role _) state (fun j mem => ?_) (.inl rfl)
  rw [state j mem]
  rcases g.unit_agrees own mem with same | ⟨frozen, _⟩
  · simp [becomes, same, live]
  · simp [becomes, frozen]

/-- Every change of a unit keeps the groups whole (R85, R86, R87, R90). -/
theorem GroupsAgree.unitChange (g : GroupsAgree s) (own : s.owner h = h) {f : Window → Window}
    (change : s.UnitChange h f) : GroupsAgree (s.modifyWindows (s.unitSlots h) f) := by
  cases change with
  | activate staged =>
    refine g.unitBecomes own (Window.activate_role _) (fun j _ => Window.activate_state _ _) ?_ (by simp [staged])
    split <;> decide
  | disarm armed => exact g.unitBecomes own (fun _ => rfl) (fun _ _ => rfl) (by decide) (by simp [armed])
  | openAtTick armed =>
    refine g.unitBecomes own Window.openAtTick_role (fun j mem => Window.openAtTick_state ?_) (by decide)
      (by simp [armed])
    rw [g.unit_state own (by simp [armed]) mem, armed]
  | freeze =>
    refine g.unit own (fun x => if x = .opened then .frozen else x) (fun j _ => Window.freeze_role _)
      (fun j _ => Window.state_freeze _) (fun j _ => ?_) (.inl rfl)
    rw [Window.state_freeze]
    split
    · rename_i opened
      simp [opened]
    · rfl
  | thaw =>
    refine g.unit own (fun x => if x = .frozen then .opened else x) (fun j _ => Window.thawed_role _)
      (fun j _ => Window.state_thawed _) (fun j _ => ?_) (.inl rfl)
    rw [Window.state_thawed]
    split
    · rename_i frozen
      simp [frozen]
    · rfl
  | drain service =>
    refine g.unitBecomes own (fun _ => rfl) (fun _ _ => rfl) (by decide) ?_
    rcases service with opened | frozen
    · simp [opened]
    · simp [frozen]
  | free => exact g.clearUnit own

/-! #### The groups -/

theorem GroupsAgree.of_windows (g : GroupsAgree s) (windows : ∀ k, t.window k = s.window k) : GroupsAgree t :=
  g.of_states fun j => by simp [windows]

/-- A part with no MEMBER has its groups whole. -/
theorem GroupsAgree.of_free (free : ∀ k, s.window k = Window.free) : GroupsAgree s := fun k member => by
  rw [free] at member
  cases member

theorem State.window_clearAll (s : State) (k : SlotId) : (s.clearSlots (List.finRange 64)).window k = Window.free :=
  s.window_modifyWindows_mem _ _ k (List.nodup_finRange 64) (List.mem_finRange k)

/-- Every move keeps the groups whole. -/
theorem GroupsAgree.move (m : s.Move D t) (g : GroupsAgree s) : GroupsAgree t := by
  cases m with
  | keep kept => exact g.of_windows kept.window
  | limit windows => exact g.of_windows fun k => by simp [State.window, windows]
  | reset windows => exact .of_free windows
  | bind | unbind | levels | flip => exact g.of_windows fun _ => rfl
  | create map ok =>
    obtain ⟨free, fits, _⟩ := State.createCheck_eq_ok ok
    exact g.create free rfl fits
  | modify ok => exact g.of_states (s.states_putWindow _ (Window.loadSelected_states _ _ _))
  | record adjusts => exact g.of_states (s.states_putWindow _ adjusts.states)
  | unit own change => exact g.unitChange own change
  | tail member last => exact g.clearTail last member
  | alone opened head => exact g.freezeAlone opened head
  | clear => exact .of_free s.window_clearAll

/-! #### The TOGGLE gates -/

/-- A change that gives each gate and each state back keeps the TOGGLE gates quiet. -/
theorem TogglesQuiet.of_same (quiet : TogglesQuiet s)
    (gates : ∀ g, (t.gate g).binding = (s.gate g).binding ∧ (t.gate g).mode = (s.gate g).mode
      ∧ (t.gate g).active = (s.gate g).active)
    (states : ∀ k, (t.window k).state = (s.window k).state) : TogglesQuiet t := by
  intro g k bound toggle active
  obtain ⟨binding, mode, phase⟩ := gates g
  rw [binding] at bound
  rw [mode] at toggle
  rw [phase] at active
  rw [states, quiet g k bound toggle active]

/-- Writing a window record reports its change of state, and its TOGGLE gates are INACTIVE outside OPEN. -/
theorem TogglesQuiet.putWindow {s : State} (quiet : TogglesQuiet s) (k : SlotId) (w : Window) :
    TogglesQuiet (s.putWindow k w) := by
  intro g j bound toggle active
  rw [State.gate_putWindow] at bound toggle active
  rw [Gate.report_binding] at bound
  rw [Gate.report_mode] at toggle
  rw [State.window_putWindow]
  split
  · rename_i e
    subst e
    exact Gate.report_toggle bound toggle (quiet g k bound toggle) active
  · rename_i ne
    rw [Gate.report_other (by simpa [bound] using Ne.symm ne)] at active
    exact quiet g j bound toggle active

theorem TogglesQuiet.modifyWindows {s : State} (quiet : TogglesQuiet s) (ks : List SlotId) (f : Window → Window) :
    TogglesQuiet (s.modifyWindows ks f) :=
  State.modifyWindows_keeps (fun _ _ q => q.putWindow _ _) ks s quiet

/-- A gate that is bound or unbound anew is not a TOGGLE gate that is ACTIVE (R146). -/
theorem TogglesQuiet.putGate (quiet : TogglesQuiet s) (g : GateId) {x : Gate}
    (inactive : x.mode = .toggle → x.active = false) : TogglesQuiet (s.putGate g x) := by
  intro i k bound toggle active
  rw [State.gate_putGate] at bound toggle active
  split at bound
  · rename_i e
    rw [if_pos e] at toggle active
    rw [inactive toggle] at active
    cases active
  · rename_i ne
    rw [if_neg ne] at toggle active
    exact quiet i k bound toggle active

/-- The TOGGLE gates of an OPEN slot may flip. -/
theorem TogglesQuiet.flip (quiet : TogglesQuiet s) (opened : (s.window h).state = .opened) :
    TogglesQuiet (s.flipToggles h) := by
  intro g k bound toggle active
  rw [State.gate_flipToggles, Gate.flip_binding] at bound
  rw [State.gate_flipToggles, Gate.flip_mode] at toggle
  rw [State.flipToggles_window]
  by_cases e : k = h
  · rw [e, opened]
  · rw [State.gate_flipToggles, Gate.flip_other fun mine => absurd (bound.symm.trans mine) (by simpa using e)] at active
    exact quiet g k bound toggle active

/-- Every move of a part whose groups are whole keeps the TOGGLE gates quiet. -/
theorem TogglesQuiet.move (m : s.Move D t) (g : GroupsAgree s) (quiet : TogglesQuiet s) : TogglesQuiet t := by
  cases m with
  | keep kept => exact quiet.of_same (fun g => by simp [kept.gate]) fun k => by rw [kept.window]
  | limit windows gates =>
    exact quiet.of_same (fun g => by simp [State.gate, gates]) fun k => by simp [State.window, windows]
  | reset windows gates => exact fun g k bound => by simp [gates, Gate.reset] at bound
  | bind i k polarity mode =>
    refine quiet.putGate i fun toggle => ?_
    simp only [Gate.rebind] at toggle ⊢
    simp [toggle]
  | unbind i polarity mode => exact quiet.putGate i fun _ => rfl
  | levels levels =>
    refine quiet.of_same (fun i => ?_) fun _ => rfl
    rw [gate_levels]
    split <;> exact ⟨rfl, rfl, rfl⟩
  | create map ok => exact quiet.putWindow _ _
  | modify ok => exact quiet.putWindow _ _
  | record adjusts => exact quiet.putWindow _ _
  | unit own change => exact quiet.modifyWindows _ _
  | tail member last => exact quiet.modifyWindows _ _
  | alone opened head => exact quiet.putWindow _ _
  | clear => exact quiet.modifyWindows _ _
  | flip owns => exact quiet.flip (g.opened_of_ownsOpen owns)

theorem TogglesQuiet.lowers {u : State} (low : s.Lowers h u) (quiet : TogglesQuiet s) : TogglesQuiet u := by
  cases low with
  | use mode => exact quiet.putWindow _ _
  | tick => exact quiet.modifyWindows _ _

end

/-- Settles O55: each step is a chain of moves of windows and gates, and each keeps groups whole and TOGGLE
gates quiet. -/
theorem stepsKeepGroupsAgreeing : Obligations.StepsKeepGroupsAgreeing := by
  intro s t groups quiet stepped
  have events : s.Events (fun _ => True) t := step_events (fun _ _ _ => trivial) (fun _ _ => trivial) stepped
  exact events.keeps_of_moves (P := fun s => GroupsAgree s ∧ TogglesQuiet s)
    (fun m both => ⟨both.1.move m, both.2.move m both.1⟩)
    (fun low both => ⟨both.1.of_states low.states, both.2.lowers low⟩) ⟨groups, quiet⟩

end Sys2Proof.Machine

/-! ### The ranges of a window record (R4 to R11, R14, R26, R32, R65, R68) -/

namespace Sys2Proof.Machine

/-! #### The ranges by name -/

/-- The fields that are loaded keep their ranges (R4 to R9, R14), and the base keeps its own as it walks (R26). -/
structure Window.FieldsFit (w : Window) : Prop where
  granule : 6 ≤ w.granule ∧ w.granule ≤ 24
  span : 1 ≤ w.span ∧ w.span ≤ 256
  aligned : w.base % 2 ^ w.granule = 0
  ends : w.base + w.span * 2 ^ w.granule ≤ 2 ^ 36
  lanes : w.laneMask ≠ 0
  claims : 1 ≤ w.claimLimit ∧ w.claimLimit ≤ 15
  hold : w.holdLimit ≤ 255
  reload : 1 ≤ w.leaseReload ∧ w.leaseReload ≤ 65535
  idle : ∀ n, w.idleLimit = some n → 1 ≤ n ∧ n ≤ 255
  walk : ∀ k, w.walk = some k →
    k.start % 2 ^ w.granule = 0 ∧ k.start + w.span * 2 ^ w.granule ≤ 2 ^ 36 ∧ w.granule ≤ k.stride ∧ k.stride ≤ 28
      ∧ 1 ≤ k.stepLimit ∧ k.stepLimit ≤ 4095

/-- The counts, the maps and the lease mode agree with the state, the role and the fields (R11, R32, R65). -/
structure Window.CountsFit (w : Window) : Prop where
  lease : w.leaseCount ≤ 65535
  armed : w.state = .armed → w.role ≠ .member → w.leaseMode = .timed
  member : w.role = .member → w.leaseMode = .none
  idle : w.idleCount ≤ 255
  steps : ∀ k, w.walk = some k → w.stepCount ≤ k.stepLimit
  still : w.walk = none → w.stepCount = 0
  fresh : w.state = .staged ∨ w.state = .armed → w.stepCount = 0
  drain : w.drainCount ≤ 255
  maps : w.state = .armed ∨ w.state = .opened ∨ w.state = .frozen → w.shadowPending = false → w.shadowMap = w.activeMap

/-- In range but for the count of a lease that may have reached 0. -/
def Window.Ranges (w : Window) : Prop := w.FieldsFit ∧ w.CountsFit

/-- An OPEN lease has a count left (R68). -/
def Window.LeaseLeft (w : Window) : Prop := w.state = .opened → w.leaseMode ≠ .none → 1 ≤ w.leaseCount

theorem Window.inRange_iff {w : Window} : w.InRange ↔ w.Ranges ∧ w.LeaseLeft := by
  constructor
  · rintro ⟨granule, span, aligned, ends, lanes, claims, hold, reload, lease, left, armed, member, idle, idleCount,
      walk, still, fresh, drain, maps⟩
    have walks := fun k hk => walk k hk
    simp only [Walk.InRange] at walks
    exact ⟨⟨⟨granule, span, aligned, ends, lanes, claims, hold, reload, idle, fun k hk =>
        have ⟨on, fits, wide, narrow, least, most, _⟩ := walks k hk
        ⟨on, fits, wide, narrow, least, most⟩⟩,
      ⟨lease, armed, member, idleCount, fun k hk => (walks k hk).2.2.2.2.2.2, still, fresh, drain, maps⟩⟩, left⟩
  · rintro ⟨⟨⟨granule, span, aligned, ends, lanes, claims, hold, reload, idle, walk⟩,
      ⟨lease, armed, member, idleCount, steps, still, fresh, drain, maps⟩⟩, left⟩
    exact ⟨granule, span, aligned, ends, lanes, claims, hold, reload, lease, left, armed, member, idle, idleCount,
      fun k hk =>
        have ⟨on, fits, wide, narrow, least, most⟩ := walk k hk
        ⟨on, fits, wide, narrow, least, most, steps k hk⟩, still, fresh, drain, maps⟩

/-- Outside OPEN the ranges are all there is to show. -/
theorem Window.Ranges.inRange {w : Window} (ranges : w.Ranges) (closed : w.state ≠ .opened) : w.InRange :=
  Window.inRange_iff.mpr ⟨ranges, fun opened => absurd opened closed⟩

theorem Window.FieldsFit.idle_getD {w : Window} (fields : w.FieldsFit) : w.idleLimit.getD 0 ≤ 255 := by
  rcases limit : w.idleLimit with _ | n
  · exact Nat.zero_le _
  · exact (fields.idle n limit).2

/-! #### Changes of state -/

section

variable {w : Window}

/-- A window that leaves OPEN needs no count left. -/
theorem Window.Ranges.freeze (ranges : w.Ranges) : w.freeze.InRange := by
  obtain ⟨fields, counts⟩ := ranges
  unfold Window.freeze
  split
  · rename_i opened
    refine Window.Ranges.inRange ⟨{ fields with }, { counts with armed := ?_, fresh := ?_, maps := ?_ }⟩ (by simp)
    · simp
    · simp
    · exact fun _ => counts.maps (.inr (.inl opened))
  · rename_i closed
    exact Window.Ranges.inRange ⟨fields, counts⟩ closed

theorem Window.Ranges.drain (ranges : w.Ranges) : ({ w with state := .draining } : Window).InRange := by
  obtain ⟨fields, counts⟩ := ranges
  refine Window.Ranges.inRange ⟨{ fields with }, { counts with armed := ?_, fresh := ?_, maps := ?_ }⟩ (by simp)
  all_goals simp

theorem Window.Ranges.disarm (ranges : w.Ranges) (armed : w.state = .armed) :
    ({ w with state := .staged } : Window).InRange := by
  obtain ⟨fields, counts⟩ := ranges
  refine Window.Ranges.inRange ⟨{ fields with }, { counts with armed := ?_, fresh := ?_, maps := ?_ }⟩ (by simp)
  · simp
  · exact fun _ => counts.fresh (.inr armed)
  · simp

/-- The reload of a lease count gives an OPEN lease a count (R7, R70). -/
theorem Window.Ranges.reloaded (ranges : w.Ranges) : ({ w with leaseCount := w.leaseReload } : Window).InRange := by
  obtain ⟨fields, counts⟩ := ranges
  exact Window.inRange_iff.mpr ⟨⟨{ fields with }, { counts with lease := fields.reload.2 }⟩, fun _ _ => fields.reload.1⟩

/-- The opening of a window, whose count is loaded as its own lease mode asks, is in range. -/
theorem Window.Ranges.opens (ranges : w.Ranges) {count : Nat} (le : count ≤ 65535)
    (left : w.leaseMode ≠ .none → 1 ≤ count) (maps : w.shadowPending = false → w.shadowMap = w.activeMap) :
    ({ w with state := .opened, leaseCount := count, idleCount := w.idleLimit.getD 0 } : Window).InRange := by
  obtain ⟨fields, counts⟩ := ranges
  refine Window.inRange_iff.mpr ⟨⟨{ fields with }, { counts with
    lease := le, armed := ?_, idle := fields.idle_getD, fresh := ?_, maps := fun _ => maps }⟩, fun _ => left⟩ <;> simp

theorem Window.thawed_inRange (range : w.InRange) : w.thawed.InRange := by
  obtain ⟨ranges, left⟩ := Window.inRange_iff.mp range
  obtain ⟨fields, counts⟩ := ranges
  unfold Window.thawed
  split
  · rename_i frozen
    refine Window.Ranges.opens ⟨fields, counts⟩ ?_ (fun mode => ?_) (counts.maps (.inr (.inr frozen)))
    · have := fields.reload
      have := counts.lease
      split <;> omega
    · split
      · exact fields.reload.1
      · rename_i kept
        exact Nat.one_le_iff_ne_zero.mpr fun zero => kept ⟨mode, zero⟩
  · exact range

theorem Window.openAtTick_inRange (range : w.InRange) : w.openAtTick.InRange := by
  obtain ⟨ranges, left⟩ := Window.inRange_iff.mp range
  obtain ⟨fields, counts⟩ := ranges
  unfold Window.openAtTick
  split
  · rename_i armed
    have timed : w.leaseMode ≠ .none → w.leaseMode = .timed := fun mode =>
      counts.armed armed fun member => mode (counts.member member)
    refine Window.Ranges.opens ⟨fields, counts⟩ ?_ (fun mode => ?_) (counts.maps (.inl armed))
    · have := fields.reload
      have := counts.lease
      split <;> omega
    · rw [if_pos (timed mode)]
      exact fields.reload.1
  · exact range

/-- A window of a unit that is activated, before its state changes: the maps agree and the walk stands at its start. -/
def Window.placed (w : Window) : Window :=
  match w.walk with
  | none => { w with shadowMap := w.activeMap, shadowPending := false, drainCount := 0 }
  | some k =>
    { w with
      shadowMap := w.activeMap, shadowPending := false, drainCount := 0
      base := k.start, stepCount := 0, overrun := false }

/-- The activation of a window places it and gives it its state, with a USES count and the idle count in OPEN. -/
theorem Window.activate_eq (mode : LeaseMode) (w : Window) :
    w.activate mode
      = if mode = .timed then { w.placed with state := .armed }
        else { w.placed with
          state := .opened
          leaseCount := if mode = .uses ∧ w.placed.leaseMode = .uses then w.placed.leaseReload else w.placed.leaseCount
          idleCount := w.placed.idleLimit.getD 0 } := by
  cases mode <;> rcases walk : w.walk with _ | k <;> simp [Window.activate, Window.placed, walk]

theorem Window.Ranges.restarted (ranges : w.Ranges) {k : Walk} (walk : w.walk = some k) :
    ({ w with base := k.start, stepCount := 0, overrun := false } : Window).Ranges := by
  obtain ⟨fields, counts⟩ := ranges
  obtain ⟨on, ends, _⟩ := fields.walk k walk
  exact ⟨{ fields with aligned := on, ends := ends },
    { counts with steps := fun _ _ => Nat.zero_le _, still := fun _ => rfl, fresh := fun _ => rfl }⟩

theorem Window.Ranges.placed (ranges : w.Ranges) : w.placed.Ranges := by
  have mapped : ({ w with shadowMap := w.activeMap, shadowPending := false, drainCount := 0 } : Window).Ranges := by
    obtain ⟨fields, counts⟩ := ranges
    exact ⟨{ fields with }, { counts with drain := Nat.zero_le _, maps := fun _ _ => rfl }⟩
  unfold Window.placed
  split
  · exact mapped
  · rename_i k walk
    exact mapped.restarted walk

theorem Window.placed_keeps (w : Window) :
    w.placed.role = w.role ∧ w.placed.leaseMode = w.leaseMode ∧ w.placed.shadowMap = w.placed.activeMap := by
  unfold Window.placed
  split <;> exact ⟨rfl, rfl, rfl⟩

theorem Window.placed_stepCount (fresh : w.stepCount = 0) : w.placed.stepCount = 0 := by
  unfold Window.placed
  split
  · exact fresh
  · rfl

/-- A STAGED window is activated under the lease mode of the slot that owns the lease, its own where it is no MEMBER. -/
theorem Window.Ranges.activate (ranges : w.Ranges) {mode : LeaseMode} (staged : w.state = .staged)
    (own : w.role ≠ .member → w.leaseMode = mode) : (w.activate mode).InRange := by
  obtain ⟨role, lease, maps⟩ := w.placed_keeps
  obtain ⟨fields, counts⟩ := ranges.placed
  have unstepped := w.placed_stepCount (ranges.2.fresh (.inl staged))
  have governs : w.placed.leaseMode ≠ .none → w.placed.leaseMode = mode := fun leased => by
    rw [lease]
    exact own fun member => leased (lease ▸ ranges.2.member member)
  rw [Window.activate_eq]
  split
  · rename_i timed
    refine Window.Ranges.inRange ⟨{ fields with }, { counts with armed := ?_, fresh := ?_, maps := ?_ }⟩ (by simp)
    · rw [role, lease]
      exact fun _ alone => (own alone).trans timed
    · exact fun _ => unstepped
    · exact fun _ _ => maps
  · rename_i untimed
    refine Window.Ranges.opens ⟨fields, counts⟩ ?_ (fun leased => ?_) fun _ => maps
    · have := fields.reload
      have := counts.lease
      split <;> omega
    · have same := governs leased
      have uses : mode = .uses := by cases mode <;> simp_all
      rw [if_pos ⟨uses, same.trans uses⟩]
      exact fields.reload.1

/-! #### Counting down (R54, R66) -/

theorem Window.Ranges.leaseUsed (ranges : w.Ranges) : ({ w with leaseCount := w.leaseCount - 1 } : Window).Ranges := by
  obtain ⟨fields, counts⟩ := ranges
  exact ⟨{ fields with }, { counts with lease := (Nat.sub_le _ _).trans counts.lease }⟩

theorem Window.Ranges.countDown (ranges : w.Ranges) : w.countDown.Ranges := by
  obtain ⟨fields, counts⟩ := ranges
  have lease := counts.lease
  have idle := counts.idle
  unfold Window.countDown
  split
  · refine ⟨{ fields with }, { counts with lease := ?_, idle := ?_ }⟩
    · dsimp only
      split <;> omega
    · dsimp only
      split <;> omega
  · exact ⟨fields, counts⟩

theorem Window.countDown_leaseMode (w : Window) : w.countDown.leaseMode = w.leaseMode := by
  unfold Window.countDown
  split <;> rfl

/-! #### Walking (R39, R40) -/

/-- A pulse event reaches a window in service that has a walk. -/
theorem Window.reachedBy_cases {p : PulsePair} (reached : w.reachedBy p = true) :
    (w.state = .opened ∨ w.state = .frozen) ∧ ∃ k, w.walk = some k := by
  simp only [Window.reachedBy, Bool.and_eq_true, Window.inService_iff] at reached
  refine ⟨reached.1, Option.ne_none_iff_exists'.mp fun none => ?_⟩
  rw [none] at reached
  exact Bool.false_ne_true reached.2

theorem Window.commit_inRange (range : w.InRange) : w.commit.InRange := by
  obtain ⟨⟨fields, counts⟩, left⟩ := Window.inRange_iff.mp range
  unfold Window.commit
  split
  · exact Window.inRange_iff.mpr ⟨⟨{ fields with }, { counts with maps := fun _ _ => rfl }⟩, left⟩
  · exact range

theorem Window.restart_inRange (p : PulsePair) (range : w.InRange) : (w.restart p).InRange := by
  obtain ⟨ranges, left⟩ := Window.inRange_iff.mp range
  unfold Window.restart
  split
  · split
    · exact range
    · rename_i k walk
      have placed := Window.inRange_iff.mpr ⟨ranges.restarted walk, left⟩
      simp only
      split
      · exact Window.commit_inRange placed
      · exact placed
  · exact range

/-- One stride up keeps the base on its granule, for the stride is no smaller (R9). -/
theorem aligned_add_stride {base granule stride : Nat} (on : base % 2 ^ granule = 0) (wide : granule ≤ stride) :
    (base + 2 ^ stride) % 2 ^ granule = 0 :=
  Nat.mod_eq_zero_of_dvd ((Nat.dvd_of_mod_eq_zero on).add (pow_dvd_pow 2 wide))

theorem Window.advance_inRange (p : PulsePair) (range : w.InRange) : (w.advance p).InRange := by
  obtain ⟨⟨fields, counts⟩, left⟩ := Window.inRange_iff.mp range
  unfold Window.advance
  split
  · rename_i reached
    obtain ⟨service, _⟩ := Window.reachedBy_cases reached
    split
    · exact range
    · rename_i k walk
      split
      · rename_i steps
        simp only [Window.canStep, walk, Bool.and_eq_true, decide_eq_true_eq, Config.addressSpace] at steps
        obtain ⟨below, ends⟩ := steps
        obtain ⟨_, _, wide, _⟩ := fields.walk k walk
        refine Window.inRange_iff.mpr ⟨⟨{ fields with
            aligned := aligned_add_stride fields.aligned wide, ends := of_decide_eq_true ends },
          { counts with steps := fun j hj => ?_, still := fun none => ?_, fresh := fun held => ?_ }⟩, left⟩
        · rw [walk] at hj
          cases hj
          exact below
        · rw [walk] at none
          cases none
        · rcases service with s | s <;> rcases held with f | f <;> rw [s] at f <;> cases f
      · exact Window.inRange_iff.mpr ⟨⟨{ fields with }, { counts with }⟩, left⟩
  · exact range

/-! #### Adjustments of one record -/

theorem Window.used_inRange (range : w.InRange) : w.used.InRange := by
  obtain ⟨⟨fields, counts⟩, left⟩ := Window.inRange_iff.mp range
  unfold Window.used
  split
  · exact range
  · rename_i n limit
    exact Window.inRange_iff.mpr ⟨⟨{ fields with }, { counts with idle := (fields.idle n limit).2 }⟩, left⟩

theorem Window.renew_inRange (count : BitVec 16) (range : w.InRange) : (w.renew count).InRange := by
  obtain ⟨⟨fields, counts⟩, _⟩ := Window.inRange_iff.mp range
  have reload := fields.reload
  refine Window.inRange_iff.mpr ⟨⟨{ fields with }, { counts with lease := ?_ }⟩, fun _ _ => ?_⟩
  · have small := count.isLt
    dsimp only [Window.renew]
    split <;> omega
  · dsimp only [Window.renew]
    split
    · omega
    · bv_omega

/-- Every adjustment of a record keeps it in its ranges, where the drain limit of the part is in its own (R127). -/
theorem Window.Adjusts.inRange {limit : Nat} {v : Window} (adjusts : w.Adjusts limit v) (le : limit ≤ 255)
    (range : w.InRange) : v.InRange := by
  obtain ⟨⟨fields, counts⟩, left⟩ := Window.inRange_iff.mp range
  cases adjusts with
  | renew count => exact Window.renew_inRange count range
  | commit => exact Window.commit_inRange range
  | writeActive map staged =>
    exact Window.inRange_iff.mpr ⟨⟨{ fields with }, { counts with maps := by simp [staged] }⟩, left⟩
  | writeShadow map => exact Window.inRange_iff.mpr ⟨⟨{ fields with }, { counts with maps := by simp }⟩, left⟩
  | released hold => exact Window.inRange_iff.mpr ⟨⟨{ fields with }, { counts with }⟩, left⟩
  | used => exact Window.used_inRange range
  | restart p => exact Window.restart_inRange p range
  | advance p => exact Window.advance_inRange p range
  | drainLoaded => exact Window.inRange_iff.mpr ⟨⟨{ fields with }, { counts with drain := le }⟩, left⟩
  | drainCounted =>
    exact Window.inRange_iff.mpr
      ⟨⟨{ fields with }, { counts with drain := (Nat.sub_le _ _).trans counts.drain }⟩, left⟩

end

end Sys2Proof.Machine

/-! ### A record that is loaded is in its ranges (R4 to R9, R14 to R18) -/

namespace Sys2Proof.Machine

/-! #### The fields that a checked block carries -/

/-- The record holds what the block carries, an idle limit and a walk where the block says that they are present. -/
structure FieldBlock.Carries (b : FieldBlock) (w : Window) : Prop where
  base : b.base.toNat = w.base
  granule : b.granule.toNat = w.granule
  span : b.span.toNat = w.span
  lanes : b.laneMask = w.laneMask
  claims : b.claimLimit.toNat = w.claimLimit
  hold : b.holdLimit.toNat = w.holdLimit
  reload : w.leaseReload = if b.leaseReload.toNat = 0 then 1 else b.leaseReload.toNat
  idle : ∀ n, w.idleLimit = some n → b.flags.getLsbD 1 = true ∧ b.idleLimit.toNat = n
  walk : ∀ k, w.walk = some k →
    b.flags.getLsbD 2 = true ∧ b.walkStart.toNat = k.start ∧ b.stride.toNat = k.stride ∧ b.stepLimit.toNat = k.stepLimit

/-- What a block that passes its checks carries keeps its ranges (R14). -/
theorem FieldBlock.Carries.fieldsFit {b : FieldBlock} {w : Window} (carries : b.Carries w) (passes : b.check = none) :
    w.FieldsFit := by
  obtain ⟨⟨granule, span, _, _, _, lanes, claims, _, idle, walk, _⟩, ⟨on, walkOn⟩, _, ends, walkEnds⟩ :=
    FieldBlock.check_eq_none.mp passes
  have hold := b.holdLimit.isLt
  have reload := b.leaseReload.isLt
  have small := b.idleLimit.isLt
  rw [carries.base, carries.granule] at on
  rw [carries.base, carries.granule, carries.span] at ends
  refine ⟨carries.granule ▸ granule, carries.span ▸ span, on, ends, carries.lanes ▸ lanes, carries.claims ▸ claims, ?_,
    ?_, fun n limit => ?_, fun k walks => ?_⟩
  · rw [← carries.hold]
    omega
  · rw [carries.reload]
    split <;> omega
  · obtain ⟨present, carried⟩ := carries.idle n limit
    have least := idle present
    omega
  · obtain ⟨present, start, stride, steps⟩ := carries.walk k walks
    obtain ⟨_, wide, narrow, least, most⟩ := walk present
    have on := walkOn present
    have ends := walkEnds present
    rw [carries.granule, stride] at wide
    rw [stride] at narrow
    rw [steps] at least most
    rw [start, carries.granule] at on
    rw [start, carries.granule, carries.span] at ends
    exact ⟨on, ends, wide, narrow, least, most⟩

/-! #### WINDOW CREATE -/

theorem FieldBlock.carries_create (r : Role) (b : FieldBlock) : b.Carries (Window.create r b) where
  base := rfl
  granule := rfl
  span := rfl
  lanes := rfl
  claims := rfl
  hold := rfl
  reload := rfl
  idle n limit := by
    change (if b.flags.getLsbD 1 then some b.idleLimit.toNat else none) = some n at limit
    split at limit
    · rename_i present
      cases limit
      exact ⟨present, rfl⟩
    · cases limit
  walk k walks := by
    change b.walkOf = some k at walks
    unfold FieldBlock.walkOf at walks
    split at walks
    · rename_i present
      cases walks
      exact ⟨present, rfl, rfl, rfl⟩
    · cases walks

/-- The record that an accepted WINDOW CREATE loads, with any map, is in its ranges (R15). -/
theorem Window.create_inRange {r : Role} {b : FieldBlock} (passes : b.check = none) (map : BitVec 256) :
    ({ Window.create r b with activeMap := map } : Window).InRange := by
  have fields := (FieldBlock.carries_create r b).fieldsFit passes
  refine Window.Ranges.inRange ⟨{ fields with }, ?_⟩ nofun
  exact { lease := Nat.zero_le _, armed := nofun, member := fun member => if_pos member, idle := Nat.zero_le _
          steps := fun _ _ => Nat.zero_le _, still := fun _ => rfl, fresh := fun _ => rfl, drain := Nat.zero_le _
          maps := by rintro (armed | opened | frozen) <;> contradiction }

/-! #### WINDOW MODIFY -/

section

variable {w : Window} {x : Selection} {b : FieldBlock}

/-- The loaded record holds what the merged block carries (R16, R17). -/
theorem FieldBlock.carries_loadSelected (range : w.InRange) (x : Selection) (b : FieldBlock) :
    (FieldBlock.merge x b w.block).Carries (w.loadSelected x b) := by
  obtain ⟨base, granule, span, claims, hold, reload, idle, start, stride, limit⟩ := w.block_of_inRange range
  obtain ⟨⟨fields, _⟩, _⟩ := Window.inRange_iff.mp range
  have bit := fun i hi => FieldBlock.merge_flags_getLsbD x b w.block (i := i) hi
  have kept := fun i hi => w.block_flags_getLsbD (i := i) hi
  rw [Window.loadSelected_eq]
  constructor
  case base => cases g : x.geometry <;> simp [FieldBlock.merge, g, base]
  case granule => cases g : x.geometry <;> simp [FieldBlock.merge, g, granule]
  case span => cases g : x.geometry <;> simp [FieldBlock.merge, g, span]
  case lanes => cases a : x.access <;> simp [FieldBlock.merge, a, Window.block]
  case claims => cases c : x.claims <;> simp [FieldBlock.merge, c, claims]
  case hold => cases c : x.claims <;> simp [FieldBlock.merge, c, hold]
  case reload =>
    have least := fields.reload.1
    cases l : x.lease
    · simp only [FieldBlock.merge, l, Bool.false_eq_true, if_false, reload]
      rw [if_neg (by omega)]
    · simp [FieldBlock.merge, l]
  case idle =>
    intro n loaded
    rw [bit 1 (by decide)]
    cases i : x.idle
    · simp only [i, Bool.false_eq_true, if_false] at loaded
      simp [FieldBlock.merge, i, kept 1 (by decide), idle, loaded]
    · simp only [i, if_true, FieldBlock.idleOf] at loaded
      split at loaded
      · rename_i present
        cases loaded
        simp [FieldBlock.merge, i, present]
      · cases loaded
  case walk =>
    intro k loaded
    rw [bit 2 (by decide)]
    cases g : x.walk
    · simp only [g, Bool.false_eq_true, if_false] at loaded
      simp [FieldBlock.merge, g, kept 2 (by decide), start, stride, limit, loaded]
    · simp only [g, if_true, FieldBlock.walkOf] at loaded
      split at loaded
      · rename_i present
        cases loaded
        simp [FieldBlock.merge, g, present]
      · cases loaded

/-- What an accepted WINDOW MODIFY was checked for (R16). -/
theorem State.modifyCheck_eq_none {s : State} {k : SlotId} {select : Byte} (ok : s.modifyCheck k select b = none) :
    ((s.window k).state = .staged ∨ (s.window k).state = .opened ∨ (s.window k).state = .frozen)
      ∧ ((s.window k).role = .member → (selectionOf select).lease = false)
      ∧ ((s.window k).state ≠ .staged → (selectionOf select).walk = false
          ∧ ((selectionOf select).lease = true → leaseModeOf b.leaseMode = some (s.window k).leaseMode))
      ∧ (FieldBlock.merge (selectionOf select) b (s.window k).block).check = none := by
  simp only [State.modifyCheck] at ok
  split at ok
  · cases ok
  split at ok
  · cases ok
  rename_i live
  split at ok
  · cases ok
  rename_i alone
  split at ok
  · cases ok
  rename_i geometry
  split at ok
  · cases ok
  rename_i mode
  have state : (s.window k).state = .staged ∨ (s.window k).state = .opened ∨ (s.window k).state = .frozen := by
    cases here : (s.window k).state <;> simp_all
  refine ⟨state, fun member => ?_, fun service => ?_, ?_⟩
  · have isMember : (s.window k).isMember = true := Window.isMember_iff.mpr ⟨fun free => live (.inl free), member⟩
    exact Bool.eq_false_iff.mpr fun lease => alone ⟨isMember, lease⟩
  · have open_ := state.resolve_left service
    exact ⟨Bool.eq_false_iff.mpr fun walk => geometry ⟨open_, .inr walk⟩,
      fun lease => not_not.mp fun other => mode ⟨open_, lease, other⟩⟩
  · split at ok
    · cases ok
    · assumption

theorem FieldBlock.idleOf_getD_le (b : FieldBlock) : b.idleOf.getD 0 ≤ 255 := by
  have small := b.idleLimit.isLt
  unfold FieldBlock.idleOf
  split
  · exact Nat.le_of_lt_succ small
  · exact Nat.zero_le _

/-- The record that an accepted WINDOW MODIFY loads is in its ranges (R17, R18). -/
theorem State.loadSelected_inRange {s : State} {k : SlotId} {select : Byte} (range : (s.window k).InRange)
    (ok : s.modifyCheck k select b = none) : ((s.window k).loadSelected (selectionOf select) b).InRange := by
  obtain ⟨state, member, service, passes⟩ := State.modifyCheck_eq_none ok
  have fields := (FieldBlock.carries_loadSelected range (selectionOf select) b).fieldsFit passes
  obtain ⟨⟨_, counts⟩, left⟩ := Window.inRange_iff.mp range
  rw [Window.loadSelected_eq] at fields ⊢
  have unwalked : (selectionOf select).walk = true → (s.window k).stepCount = 0 := fun walk => by
    by_cases staged : (s.window k).state = .staged
    · exact counts.fresh (.inl staged)
    · rw [(service staged).1] at walk
      cases walk
  refine Window.inRange_iff.mpr ⟨⟨fields, { counts with
    armed := ?_, member := ?_, idle := ?_, steps := ?_, still := ?_ }⟩, ?_⟩
  · intro armed
    rcases state with s | s | s <;> rw [s] at armed <;> cases armed
  · intro isMember
    simp [member isMember, counts.member isMember]
  · dsimp only
    split
    · exact b.idleOf_getD_le
    · exact counts.idle
  · intro j walks
    by_cases walk : (selectionOf select).walk = true
    · exact (unwalked walk).le.trans (Nat.zero_le _)
    · simp only [walk] at walks
      exact counts.steps j walks
  · intro walks
    by_cases walk : (selectionOf select).walk = true
    · exact unwalked walk
    · simp only [walk] at walks
      exact counts.still walks
  · intro opened leased
    refine left opened fun none => leased ?_
    dsimp only at opened ⊢
    split
    · rename_i lease
      rw [(service (by simp [opened])).2 lease, none]
      rfl
    · exact none

end

end Sys2Proof.Machine

/-! ### Every step keeps every window in its ranges -/

namespace Sys2Proof.Machine

section

variable {D : Nat → Prop} {s t u : State} {h : SlotId}

/-! #### Writing windows -/

theorem WindowsInRange.of_windows (range : WindowsInRange s) (windows : ∀ k, t.window k = s.window k) :
    WindowsInRange t := fun k live => by
  rw [windows] at live ⊢
  exact range k live

theorem WindowsInRange.of_free (free : ∀ k, s.window k = Window.free) : WindowsInRange s := fun k live =>
  absurd (congrArg Window.state (free k)) live

theorem WindowsInRange.putWindow (range : WindowsInRange s) (k : SlotId) {w : Window}
    (loaded : w.state ≠ .free → w.InRange) : WindowsInRange (s.putWindow k w) := by
  intro j
  rw [State.window_putWindow]
  split
  · exact loaded
  · exact range j

theorem State.windowsInRange_modifyWindows {ks : List SlotId} {f : Window → Window} (nodup : ks.Nodup)
    (inside : ∀ j ∈ ks, (f (s.window j)).state ≠ .free → (f (s.window j)).InRange)
    (outside : ∀ j, j ∉ ks → (s.window j).state ≠ .free → (s.window j).InRange) :
    WindowsInRange (s.modifyWindows ks f) := by
  intro j live
  by_cases mem : j ∈ ks
  · rw [s.window_modifyWindows_mem ks f j nodup mem] at live ⊢
    exact inside j mem live
  · rw [s.window_modifyWindows_notMem ks f j mem] at live ⊢
    exact outside j mem live

theorem WindowsInRange.clearSlots (range : WindowsInRange s) {ks : List SlotId} (nodup : ks.Nodup) :
    WindowsInRange (s.clearSlots ks) :=
  State.windowsInRange_modifyWindows nodup (fun _ _ live => absurd rfl live) fun j _ => range j

/-! #### The windows of a unit -/

/-- A slot of a unit other than its owner holds a MEMBER. -/
theorem State.unit_role {j : SlotId} (mem : j ∈ s.unitSlots h) (ne : j ≠ h) : (s.window j).role = .member :=
  (Window.isMember_iff.mp (State.unitSlots_above mem ne).1).2

/-- No slot of a unit is FREE but with its owner. -/
theorem GroupsAgree.unit_live (g : GroupsAgree s) (own : s.owner h = h) (live : (s.window h).state ≠ .free) {j : SlotId}
    (mem : j ∈ s.unitSlots h) : (s.window j).state ≠ .free := by
  rcases g.unit_agrees own mem with same | ⟨frozen, _⟩
  · rwa [same]
  · simp [frozen]

theorem Window.live_of_freeze {w : Window} (live : w.freeze.state ≠ .free) : w.state ≠ .free := by
  rw [Window.state_freeze] at live
  split at live
  · rename_i opened
    simp [opened]
  · exact live

theorem Window.live_of_thawed {w : Window} (live : w.thawed.state ≠ .free) : w.state ≠ .free := by
  rw [Window.state_thawed] at live
  split at live
  · rename_i frozen
    simp [frozen]
  · exact live

/-- Every change of a unit keeps its windows in range. -/
theorem WindowsInRange.unitChange (range : WindowsInRange s) (g : GroupsAgree s) (own : s.owner h = h)
    {f : Window → Window} (change : s.UnitChange h f) : WindowsInRange (s.modifyWindows (s.unitSlots h) f) := by
  refine State.windowsInRange_modifyWindows (s.unitSlots_nodup h) (fun j mem live => ?_) fun j _ => range j
  have unitRange : (s.window h).state ≠ .free → (s.window j).InRange := fun served =>
    range j (g.unit_live own served mem)
  cases change with
  | activate staged =>
    have isStaged : (s.window j).state = .staged := by rw [g.unit_state own (by simp [staged]) mem, staged]
    refine (Window.inRange_iff.mp (unitRange (by simp [staged]))).1.activate isStaged fun alone => ?_
    rw [not_not.mp fun ne => alone (State.unit_role mem ne)]
  | disarm armed =>
    have isArmed : (s.window j).state = .armed := by rw [g.unit_state own (by simp [armed]) mem, armed]
    exact (Window.inRange_iff.mp (unitRange (by simp [armed]))).1.disarm isArmed
  | openAtTick armed => exact Window.openAtTick_inRange (unitRange (by simp [armed]))
  | freeze => exact (Window.inRange_iff.mp (range j (Window.live_of_freeze live))).1.freeze
  | thaw => exact Window.thawed_inRange (range j (Window.live_of_thawed live))
  | drain service =>
    refine (Window.inRange_iff.mp (unitRange ?_)).1.drain
    rcases service with opened | frozen
    · simp [opened]
    · simp [frozen]
  | free => exact absurd rfl live

/-! #### The moves -/

/-- Every move of a part whose groups are whole and whose drain limit is in range keeps the windows in range. -/
theorem WindowsInRange.move (m : s.Move D t) (g : GroupsAgree s) (limit : s.drainLimit ≤ 255)
    (range : WindowsInRange s) : WindowsInRange t := by
  cases m with
  | keep kept => exact range.of_windows kept.window
  | limit windows => exact range.of_windows fun k => by simp [State.window, windows]
  | reset windows => exact .of_free windows
  | bind | unbind | levels | flip => exact range.of_windows fun _ => rfl
  | create map ok =>
    obtain ⟨_, _, passes⟩ := State.createCheck_eq_ok ok
    exact range.putWindow _ fun _ => Window.create_inRange passes map
  | modify ok =>
    refine range.putWindow _ fun live => State.loadSelected_inRange (range _ ?_) ok
    rwa [(Window.loadSelected_states _ _ _).1] at live
  | record adjusts =>
    refine range.putWindow _ fun live => adjusts.inRange limit (range _ ?_)
    rwa [adjusts.states.1] at live
  | unit own change => exact range.unitChange g own change
  | tail member last => exact range.clearSlots (List.nodup_singleton _)
  | clear => exact range.clearSlots (List.nodup_finRange 64)
  | alone opened head =>
    exact range.putWindow _ fun live =>
      (Window.inRange_iff.mp (range _ (Window.live_of_freeze live))).1.freeze

theorem State.Move.drainLimit_le (m : s.Move (· ≤ 255) t) (limit : s.drainLimit ≤ 255) : t.drainLimit ≤ 255 := by
  cases m with
  | keep kept => rwa [kept.limit]
  | limit windows gates loaded => exact loaded
  | reset windows gates loaded => exact loaded
  | bind | unbind | levels | flip | create | modify | record | alone => exact limit
  | unit => rwa [State.modifyWindows_drainLimit]
  | tail | clear => rwa [State.clearSlots, State.modifyWindows_drainLimit]

/-! #### The fall of a lease count (R54, R66, R68) -/

/-- Every window is in range but for the lease count at `h`, which may have reached 0. -/
def State.RangesBut (u : State) (h : SlotId) : Prop :=
  ∀ j, (u.window j).state ≠ .free → (u.window j).Ranges ∧ (j ≠ h → (u.window j).LeaseLeft)

theorem State.Lowers.leaseMode (low : s.Lowers h u) : (u.window h).leaseMode = (s.window h).leaseMode := by
  cases low with
  | use mode => rw [State.window_modifyWindow_self]
  | tick => rw [State.window_countedUnit, Window.countDown_leaseMode]

theorem State.Lowers.drainLimit (low : s.Lowers h u) : u.drainLimit = s.drainLimit := by
  cases low with
  | use mode => rfl
  | tick => exact State.modifyWindows_drainLimit s _ _

/-- A MEMBER owns no lease, so the fall of its unit's counts leaves it none to keep. -/
theorem Window.Ranges.leaseLeft_of_member {w : Window} (ranges : w.Ranges) (member : w.role = .member) : w.LeaseLeft :=
  fun _ leased => absurd (ranges.2.member member) leased

theorem State.Lowers.rangesBut (low : s.Lowers h u) (range : WindowsInRange s) : u.RangesBut h := by
  intro j live
  obtain ⟨ranges, left⟩ := Window.inRange_iff.mp (range j (by rwa [(low.states j).1] at live))
  cases low with
  | use mode =>
    rw [State.window_modifyWindow]
    split
    · rename_i e
      subst e
      exact ⟨ranges.leaseUsed, fun ne => absurd rfl ne⟩
    · exact ⟨ranges, fun _ => left⟩
  | tick =>
    by_cases mem : j ∈ s.unitSlots h
    · rw [State.countedUnit, s.window_modifyWindows_mem _ _ j (s.unitSlots_nodup h) mem]
      refine ⟨ranges.countDown, fun ne => ranges.countDown.leaseLeft_of_member ?_⟩
      rw [(Window.countDown_states _).2, State.unit_role mem ne]
    · rw [State.countedUnit, s.window_modifyWindows_notMem _ _ j mem]
      exact ⟨ranges, fun _ => left⟩

/-- A lease count that has not reached 0 leaves every window in range. -/
theorem State.Lowers.windowsInRange (low : s.Lowers h u) (range : WindowsInRange s)
    (opened : (s.window h).state = .opened)
    (left : (u.window h).leaseMode ≠ .none → (u.window h).leaseCount = 0 → (s.window h).leaseCount = 0) :
    WindowsInRange u := by
  intro j live
  obtain ⟨ranges, others⟩ := low.rangesBut range j live
  refine Window.inRange_iff.mpr ⟨ranges, ?_⟩
  by_cases e : j = h
  · subst e
    intro _ leased
    have before := (Window.inRange_iff.mp (range j (by simp [opened]))).2 opened (low.leaseMode ▸ leased)
    exact Nat.one_le_iff_ne_zero.mpr fun zero => by
      rw [left leased zero] at before
      cases before
  · exact others e

/-! #### The expiry of a lease (R70 to R72) -/

/-- A change of the unit of `h` that needs no lease count there puts every window in range. -/
theorem State.RangesBut.unit (but : u.RangesBut h) (kept : u.Keeps t) {f : Window → Window}
    (inside : ∀ j ∈ u.unitSlots h, (f (u.window j)).state ≠ .free →
      (u.window j).state ≠ .free ∧ ((u.window j).Ranges → (f (u.window j)).InRange)) :
    WindowsInRange (t.modifyWindows (u.unitSlots h) f) := by
  refine State.windowsInRange_modifyWindows (u.unitSlots_nodup h) (fun j mem live => ?_) fun j out live => ?_
  · rw [kept.window] at live ⊢
    obtain ⟨before, inRange⟩ := inside j mem live
    exact inRange (but j before).1
  · rw [kept.window] at live ⊢
    obtain ⟨ranges, left⟩ := but j live
    exact Window.inRange_iff.mpr ⟨ranges, left fun e => out (e ▸ u.mem_unitSlots_self h)⟩

theorem State.RangesBut.retireUnit (but : u.RangesBut h) (g : GroupsAgree u) (own : u.owner h = h)
    (limit : u.drainLimit ≤ 255) (force : Bool) : WindowsInRange (u.retireUnit h force) := by
  unfold State.retireUnit
  split
  · rename_i drains
    have live : (u.window h).state ≠ .free := by rcases drains.1 with opened | frozen <;> simp [*]
    have kept : u.Keeps (u.endWaits (u.unitSlots h)) := u.endWhere_keeps_tables _ _
    have drained := but.unit kept (f := fun w => { w with state := .draining }) fun j mem _ =>
      ⟨g.unit_live own live mem, Window.Ranges.drain⟩
    have inRange := drained h (by
      rw [State.window_modifyWindows_mem _ _ _ _ (u.unitSlots_nodup h) (u.mem_unitSlots_self h)]
      simp)
    exact drained.putWindow h fun _ => (Window.Adjusts.drainLoaded _).inRange limit inRange
  · have kept : u.Keeps (u.endClaims (u.unitSlots h)) := u.endWhere_keeps_tables _ _
    exact but.unit kept fun j _ live => absurd rfl live

/-- The expiry action leaves no OPEN lease at 0: it reloads the count, or the unit leaves OPEN. -/
theorem State.RangesBut.leaseAction (but : u.RangesBut h) (g : GroupsAgree u) (own : u.owner h = h)
    (live : (u.window h).state ≠ .free) (limit : u.drainLimit ≤ 255) : WindowsInRange (u.leaseAction h) := by
  unfold State.leaseAction
  split
  · have reloaded : WindowsInRange (u.modifyWindow h fun w => { w with leaseCount := w.leaseReload }) :=
      State.windowsInRange_modifyWindows (ks := [h]) (f := fun w => { w with leaseCount := w.leaseReload })
        (List.nodup_singleton h)
        (fun j mem _ => by
          rw [List.mem_singleton.mp mem]
          exact (but h live).1.reloaded)
        fun j out before => Window.inRange_iff.mpr
          ⟨(but j before).1, (but j before).2 fun e => out (List.mem_singleton.mpr e)⟩
    exact reloaded.of_windows fun _ => rfl
  · exact but.unit (.refl u) fun j _ after => ⟨Window.live_of_freeze after, Window.Ranges.freeze⟩
  · exact but.retireUnit g own limit false

/-! #### A step -/

/-- What the windows are kept in range by: whole groups and a drain limit in its range. -/
def State.Ranged (s : State) : Prop := GroupsAgree s ∧ s.drainLimit ≤ 255 ∧ WindowsInRange s

theorem State.Ranged.move (m : s.Move (· ≤ 255) t) (ranged : s.Ranged) : t.Ranged := by
  obtain ⟨groups, limit, range⟩ := ranged
  exact ⟨groups.move m, m.drainLimit_le limit, range.move m groups limit⟩

/-- Every event keeps the windows in range; an expiry, once its action is taken. -/
theorem State.Ranged.event (e : s.Event (· ≤ 255) t) (ranged : s.Ranged) : t.Ranged := by
  obtain ⟨groups, limit, range⟩ := ranged
  cases e with
  | move m => exact State.Ranged.move m ⟨groups, limit, range⟩
  | spared owns low left =>
    exact ⟨groups.of_states low.states, low.drainLimit ▸ limit,
      low.windowsInRange range (groups.opened_of_ownsOpen owns) left⟩
  | @expired u h owns low =>
    have lowered : GroupsAgree u := groups.of_states low.states
    have lowLimit : u.drainLimit ≤ 255 := low.drainLimit ▸ limit
    have lowOwns := low.ownsOpen owns
    have live : (u.window h).state ≠ .free := by simp [lowered.opened_of_ownsOpen lowOwns]
    have acted := (low.rangesBut range).leaseAction lowered lowOwns.1 live lowLimit
    have moves : u.Moves (· ≤ 255) (u.expireLease h) := State.expireLease_moves lowOwns
    obtain ⟨groups', limit'⟩ := moves.keeps (P := fun s => GroupsAgree s ∧ s.drainLimit ≤ 255)
      (fun m both => ⟨both.1.move m, m.drainLimit_le both.2⟩) ⟨lowered, lowLimit⟩
    exact ⟨groups', limit', acted.of_windows (u.expireLease_keeps_tables h).window⟩

end

/-- Settles O56: each step is a chain of events, and each keeps the windows in range while the groups are whole and the
drain limit is in its own range. -/
theorem stepsKeepWindowsInRange : Obligations.StepsKeepWindowsInRange := by
  intro s t groups range part stepped
  obtain ⟨_, _, _, _, ⟨_, limit⟩, settings, _⟩ := part
  have events : s.Events (· ≤ 255) t :=
    step_events (fun _ _ le => le) (fun h held => (settings h held).2.2.2) stepped
  exact (events.keeps State.Ranged.event ⟨groups, limit, range⟩).2.2

end Sys2Proof.Machine

/-! ### The fields that the Timebase, the load and the lanes keep in range, and what leaves them alone -/

namespace Sys2Proof.Machine

/-- The fields that `PartInRange`, `LoadingAgrees` and `LanesAgree` speak of. The stamp and the counts of ticks and of
pulse events handed over are not among them, so the work of a tick or of a pulse event leaves them alone. -/
structure Controls where
  rstLow : Bool
  service : Service
  drainLimit : Nat
  divider : Nat
  running : Bool
  subTick : Nat
  restarted : Bool
  fra : LineState
  lna : LineState
  frb : LineState
  lnb : LineState
  loader : Loader
  lanes : Vector Lane 4

/-- The controls of a state. -/
def State.controls (s : State) : Controls where
  rstLow := s.rstLow
  service := s.service
  drainLimit := s.drainLimit
  divider := s.timebase.divider
  running := s.timebase.running
  subTick := s.timebase.subTick
  restarted := s.timebase.restarted
  fra := s.pairA.restartLine
  lna := s.pairA.advanceLine
  frb := s.pairB.restartLine
  lnb := s.pairB.advanceLine
  loader := s.loader
  lanes := s.lanes

/-! #### One record, entry or gate -/

section
variable (s : State)

@[simp] theorem State.controls_modifyWindow (k : SlotId) (f : Window → Window) :
    (s.modifyWindow k f).controls = s.controls := rfl
@[simp] theorem State.controls_putWindow (k : SlotId) (w : Window) : (s.putWindow k w).controls = s.controls := rfl
@[simp] theorem State.controls_putEntry (i : EntryId) (e : Entry) : (s.putEntry i e).controls = s.controls := rfl
@[simp] theorem State.controls_putAgent (a : AgentId) (r : AgentRecord) : (s.putAgent a r).controls = s.controls := rfl
@[simp] theorem State.controls_putGate (g : GateId) (x : Gate) : (s.putGate g x).controls = s.controls := rfl
@[simp] theorem State.controls_mapEntries (f : Entry → Entry) : (s.mapEntries f).controls = s.controls := rfl
@[simp] theorem State.controls_raise (c : Cause) : (s.raise c).controls = s.controls := rfl
@[simp] theorem State.controls_addExpired (k : SlotId) : (s.addExpired k).controls = s.controls := rfl
@[simp] theorem State.controls_flipToggles (k : SlotId) : (s.flipToggles k).controls = s.controls := rfl
@[simp] theorem State.controls_granted (q : Requester) : (s.granted q).controls = s.controls := rfl
@[simp] theorem State.controls_laneGranted (l : LaneId) : (s.laneGranted l).controls = s.controls := rfl
@[simp] theorem State.controls_complete (code : Byte) (r : Reply) : (s.complete code r).controls = s.controls := rfl

@[simp] theorem State.controls_commandTaken (c : Instr) : (s.commandTaken c).controls = s.controls := by
  unfold State.commandTaken; split <;> rfl

@[simp] theorem State.controls_capture (l : LaneId) (r : Request) (why : Reason) :
    (s.capture l r why).controls = s.controls := by
  unfold State.capture; split <;> rfl

/-! #### Claims -/

@[simp] theorem State.controls_makeHeld (i : EntryId) (a : AgentId) (k : SlotId) (kind : ClaimKind) :
    (s.makeHeld i a k kind).controls = s.controls := rfl
@[simp] theorem State.controls_makeWaiting (i : EntryId) (a : AgentId) (k : SlotId) (kind : ClaimKind) (wait : Nat) :
    (s.makeWaiting i a k kind wait).controls = s.controls := rfl
@[simp] theorem State.controls_grantEntry (i : EntryId) : (s.grantEntry i).controls = s.controls := rfl

@[simp] theorem State.controls_endEntry (i : EntryId) (o : EOutcome) : (s.endEntry i o).controls = s.controls := by
  simp [State.controls]

@[simp] theorem State.controls_freeEntry (i : EntryId) : (s.freeEntry i).controls = s.controls := by
  simp [State.controls]

@[simp] theorem State.controls_endWhere (p : Entry → Bool) (o : EOutcome) : (s.endWhere p o).controls = s.controls := by
  simp [State.controls]

@[simp] theorem State.controls_grantPass (k : SlotId) : (s.grantPass k).controls = s.controls := by
  simp [State.controls]

/-! #### Several windows -/

@[simp] theorem State.controls_modifyWindows (ks : List SlotId) (f : Window → Window) :
    (s.modifyWindows ks f).controls = s.controls := by
  simp [State.controls]

/-- What each turn of a loop leaves alone, the loop leaves alone. -/
theorem State.controls_foldl {α : Type} {f : State → α → State} (one : ∀ t a, (f t a).controls = t.controls)
    (as : List α) : (as.foldl f s).controls = s.controls := by
  induction as generalizing s with
  | nil => rfl
  | cons a as ih => rw [List.foldl_cons, ih, one]

@[simp] theorem State.controls_clearSlots (ks : List SlotId) : (s.clearSlots ks).controls = s.controls :=
  s.controls_modifyWindows ks _

@[simp] theorem State.controls_freezeUnit (h : SlotId) : (s.freezeUnit h).controls = s.controls :=
  s.controls_modifyWindows _ _

@[simp] theorem State.controls_activateUnit (h : SlotId) : (s.activateUnit h).controls = s.controls :=
  s.controls_modifyWindows _ _

@[simp] theorem State.controls_endClaims (ks : List SlotId) : (s.endClaims ks).controls = s.controls :=
  s.controls_endWhere _ _

@[simp] theorem State.controls_goneUnit (h : SlotId) : (s.goneUnit h).controls = s.controls := by
  simp [State.goneUnit]

@[simp] theorem State.controls_drainUnit (h : SlotId) : (s.drainUnit h).controls = s.controls := by
  simp [State.drainUnit, State.endWaits]

@[simp] theorem State.controls_retireUnit (h : SlotId) (force : Bool) :
    (s.retireUnit h force).controls = s.controls := by
  unfold State.retireUnit; split <;> simp

@[simp] theorem State.controls_expireLease (h : SlotId) : (s.expireLease h).controls = s.controls := by
  unfold State.expireLease; split <;> simp

@[simp] theorem State.controls_afterLoss (k : SlotId) : (s.afterLoss k).controls = s.controls := by
  unfold State.afterLoss
  split
  · simp
  · split <;> simp
  · rfl

@[simp] theorem State.controls_thawSlot (k : SlotId) : (s.thawSlot k).controls = s.controls := by
  unfold State.thawSlot; split <;> simp

/-! #### Agents, lookups and claim requests -/

@[simp] theorem State.controls_loadAgent (a : AgentId) (r : AgentRecord) : (s.loadAgent a r).controls = s.controls := by
  have freed : (s.freeAgentEntries a).controls = s.controls :=
    s.controls_foldl (fun t i => by split <;> simp) _
  unfold State.loadAgent
  split
  · simp
  · rw [State.controls_foldl _ State.controls_afterLoss, State.controls_putAgent, freed]

@[simp] theorem State.controls_grantLookup (k : SlotId) : (s.grantLookup k).controls = s.controls := by
  simp only [State.grantLookup]
  split
  · split <;> simp
  · simp

@[simp] theorem State.controls_releaseHeld (i : EntryId) (k : SlotId) : (s.releaseHeld i k).controls = s.controls := by
  simp [State.releaseHeld]

@[simp] theorem State.controls_withdraw (i : EntryId) (k : SlotId) : (s.withdraw i k).controls = s.controls := by
  unfold State.withdraw; split <;> simp

/-! #### Ticks and pulse events -/

@[simp] theorem State.controls_tickOpen (h : SlotId) : (s.tickOpen h).controls = s.controls := by
  have counted : (s.countedUnit h).controls = s.controls := s.controls_modifyWindows _ _
  have leased : (s.leasedUnit h).controls = s.controls := by
    unfold State.leasedUnit; split <;> simp [counted]
  have headed : (s.headedUnit h).controls = s.controls := by
    unfold State.headedUnit; split <;> simp [leased, State.idleOutUnit]
  rw [State.tickOpen, State.controls_foldl _ (fun t k => by split <;> simp [State.idleOutAlone]), headed]

@[simp] theorem State.controls_tickDraining (h : SlotId) : (s.tickDraining h).controls = s.controls := by
  simp only [State.tickDraining]
  split <;> simp [State.forceDrained]

@[simp] theorem State.controls_tickUnit (h : SlotId) : (s.tickUnit h).controls = s.controls := by
  unfold State.tickUnit; split <;> simp

@[simp] theorem State.controls_windowTick : s.windowTick.controls = s.controls :=
  State.controls_foldl _ (fun t k => by split <;> simp) _

@[simp] theorem State.controls_claimTick : s.claimTick.controls = s.controls := by
  have ended (t : State) : t.endTimedOut.controls = t.controls := by
    simp only [State.endTimedOut, State.controls_endWhere]
    split <;> simp
  rw [State.claimTick, State.controls_foldl _ State.controls_afterLoss, ended]
  rfl

theorem State.controls_restart (p : PulsePair) : (s.restart p).controls = s.controls := by
  rw [State.restart, State.controls_modifyWindows]
  cases p <;> rfl

theorem State.controls_advance (p : PulsePair) : (s.advance p).controls = s.controls := by
  have taken : (s.putPair p { s.pair p with advances := (s.pair p).advances - 1 }).controls = s.controls := by
    cases p <;> rfl
  simp only [State.advance]
  split <;> simp [taken]

end

end Sys2Proof.Machine

/-! ### The ranges of the part, the load and the lanes, and the changes that keep them -/

namespace Sys2Proof.Machine

/-! #### The ranges, block by block -/

/-- The Timebase's clauses of `PartInRange` (R59, R62). -/
def Timebase.InRange (t : Timebase) : Prop :=
  (1 ≤ t.divider ∧ t.divider ≤ 65536) ∧ t.subTick < t.divider ∧ (t.running = false → t.subTick = 0)
    ∧ (t.restarted = true → t.running = true ∧ t.subTick = 0)

/-- Both lines of a pair keep their run counts in range (R34). -/
def PairState.InRange (p : PairState) : Prop := p.restartLine.InRange ∧ p.advanceLine.InRange

/-- The ranges of a settings record that passed its checks (R166). -/
def HeldSettings.InRange (h : HeldSettings) : Prop :=
  1 ≤ h.divider ∧ h.divider ≤ 65536 ∧ 1 ≤ h.drainLimit ∧ h.drainLimit ≤ 255

/-- The Image Loader's clauses of `PartInRange` (R163, R164, R166). -/
structure Loader.InRange (l : Loader) : Prop where
  settings : ∀ h, l.settings = some h → h.InRange
  attempts : l.result.attempts ≤ 4
  oneMore : l.phase = .busCheck → l.result.attempts < 4

theorem partInRange_iff {s : State} :
    PartInRange s ↔ s.timebase.InRange ∧ (1 ≤ s.drainLimit ∧ s.drainLimit ≤ 255) ∧ s.loader.InRange
      ∧ s.pairA.InRange ∧ s.pairB.InRange := by
  constructor
  · rintro ⟨divider, sub, stopped, restarted, limit, settings, attempts, oneMore, fra, lna, frb, lnb⟩
    exact ⟨⟨divider, sub, stopped, restarted⟩, limit, ⟨settings, attempts, oneMore⟩, ⟨fra, lna⟩, ⟨frb, lnb⟩⟩
  · rintro ⟨⟨divider, sub, stopped, restarted⟩, limit, ⟨settings, attempts, oneMore⟩, ⟨fra, lna⟩, ⟨frb, lnb⟩⟩
    exact ⟨divider, sub, stopped, restarted, limit, settings, attempts, oneMore, fra, lna, frb, lnb⟩

/-- The image is being addressed or read. -/
def LoadPhase.Reading (p : LoadPhase) : Prop :=
  p = .addressing ∨ p = .settings ∨ (∃ i, p = .record i) ∨ p = .ending

theorem LoadPhase.Reading.ne_idle {p : LoadPhase} (h : p.Reading) : p ≠ .idle := by
  rcases h with rfl | rfl | ⟨i, rfl⟩ | rfl <;> simp

/-- The loader's own clauses of `LoadingAgrees` (R164). -/
def Loader.StartAgrees (l : Loader) : Prop :=
  (l.phase.Reading → l.started = true) ∧ (l.phase = .idle ∨ l.phase = .busCheck → l.started = false)

/-- A load in progress goes on: it keeps its result PENDING, its ranges and what its phase says of the start. -/
structure Loader.Continues (l m : Loader) : Prop where
  was : l.phase ≠ .idle
  goes : m.phase ≠ .idle
  outcome : m.result.outcome = l.result.outcome
  range : l.InRange → m.InRange
  start : l.StartAgrees → m.StartAgrees

/-- Each of the three properties holds of `t` where it held of `s`. -/
structure State.Preserves (s t : State) : Prop where
  part : PartInRange s → PartInRange t
  load : LoadingAgrees s → LoadingAgrees t
  lanes : LanesAgree s → LanesAgree t

/-- The request on lane `l` is answered, and no other control changes. -/
def State.Answers (s : State) (l : LaneId) (t : State) : Prop :=
  ∃ (u : State) (a : Answer), u.controls = s.controls ∧ t = u.answerLane l a

section
variable {s t u : State}

/-! #### Chains of changes -/

theorem State.Preserves.refl (s : State) : s.Preserves s := ⟨id, id, id⟩

theorem State.Preserves.trans (h : s.Preserves t) (h' : t.Preserves u) : s.Preserves u :=
  ⟨h'.part ∘ h.part, h'.load ∘ h.load, h'.lanes ∘ h.lanes⟩

/-- A change of other fields keeps all three. -/
theorem State.Preserves.of_controls (e : t.controls = s.controls) : s.Preserves t := by
  obtain ⟨low, service, limit, divider, running, sub, restarted, fra, lna, frb, lnb, loader, lanes⟩ := Controls.mk.inj e
  refine ⟨fun h => ?_, fun h => ?_, fun h => ?_⟩
  · simpa only [PartInRange, limit, divider, running, sub, restarted, fra, lna, frb, lnb, loader] using h
  · simpa only [LoadingAgrees, low, service, loader] using h
  · simpa only [LanesAgree, State.lane, lanes] using h

/-! #### The Timebase (R59 to R62) -/

theorem State.Preserves.timebase {x : Timebase} (keeps : s.timebase.InRange → x.InRange) :
    s.Preserves { s with timebase := x } where
  part h := by
    obtain ⟨time, rest⟩ := partInRange_iff.mp h
    exact partInRange_iff.mpr ⟨keeps time, rest⟩
  load := id
  lanes := id

section
variable {tb : Timebase}

theorem Timebase.load_inRange {d : Nat} (pos : 1 ≤ d) (le : d ≤ 65536) : (tb.load d).InRange :=
  ⟨⟨pos, le⟩, pos, fun _ => rfl, fun running => ⟨running, rfl⟩⟩

theorem Timebase.InRange.start (h : tb.InRange) : tb.start.InRange := by
  obtain ⟨divider, _⟩ := id h
  unfold Timebase.start
  split
  · exact h
  · exact ⟨divider, divider.1, fun _ => rfl, fun no => absurd no Bool.false_ne_true⟩

theorem Timebase.InRange.stop (h : tb.InRange) : tb.stop.InRange :=
  ⟨h.1, h.1.1, fun _ => rfl, fun no => absurd no Bool.false_ne_true⟩

theorem Timebase.InRange.endInterval (h : tb.InRange) : tb.endInterval.InRange :=
  ⟨h.1, h.1.1, fun _ => rfl, fun no => absurd no Bool.false_ne_true⟩

theorem Timebase.InRange.intervalEnd (h : tb.InRange) : tb.intervalEnd.InRange := by
  obtain ⟨divider, sub, stopped, _⟩ := id h
  unfold Timebase.intervalEnd
  split
  · exact ⟨divider, sub, stopped, fun no => absurd no Bool.false_ne_true⟩
  · exact h.endInterval

theorem Timebase.InRange.refclk (h : tb.InRange) : tb.refclk.InRange := by
  unfold Timebase.refclk
  split
  · rename_i running
    split
    · rename_i below
      exact ⟨h.1, below, fun stopped => absurd (running.symm.trans stopped) (by simp),
        fun no => absurd no Bool.false_ne_true⟩
    · exact h.endInterval
  · exact h

theorem dividerOf_range (field : BitVec 16) : 1 ≤ dividerOf field ∧ dividerOf field ≤ 65536 := by
  unfold dividerOf
  split
  · omega
  · rename_i ne
    exact ⟨by bv_omega, by omega⟩

theorem Timebase.InRange.command (h : tb.InRange) (divider : BitVec 16) (flags run : Byte) :
    (tb.command divider flags run).InRange := by
  obtain ⟨pos, le⟩ := dividerOf_range divider
  have loaded : (if flags.getLsbD 0 then tb.load (dividerOf divider) else tb).InRange := by
    split
    · exact Timebase.load_inRange pos le
    · exact h
  have ran {x : Timebase} (hx : x.InRange) : (if run = 1 then x.start else if run = 2 then x.stop else x).InRange := by
    split
    · exact hx.start
    · split
      · exact hx.stop
      · exact hx
  simp only [Timebase.command]
  split
  · exact ran loaded
  · exact ran loaded

end

/-! #### The drain limit and the pulse lines (R34 to R37, R127) -/

theorem State.Preserves.limit {n : Nat} (pos : 1 ≤ n) (le : n ≤ 255) : s.Preserves { s with drainLimit := n } where
  part h := by
    obtain ⟨time, _, rest⟩ := partInRange_iff.mp h
    exact partInRange_iff.mpr ⟨time, ⟨pos, le⟩, rest⟩
  load := id
  lanes := id

theorem State.Preserves.pairs {a b : PairState} (keepsA : s.pairA.InRange → a.InRange)
    (keepsB : s.pairB.InRange → b.InRange) : s.Preserves { s with pairA := a, pairB := b } where
  part h := by
    obtain ⟨time, limit, loader, pairA, pairB⟩ := partInRange_iff.mp h
    exact partInRange_iff.mpr ⟨time, limit, loader, keepsA pairA, keepsB pairB⟩
  load := id
  lanes := id

theorem LineState.qualify_inRange {l : LineState} (h : l.InRange) (q : Qualification) : (l.qualify q).InRange := by
  unfold LineState.qualify
  split
  · exact h
  · cases q <;> exact Nat.succ_pos _

theorem LineState.sample_inRange (l : LineState) (high : Bool) : (l.sample high).InRange := by
  have pos : 0 < l.setting.width := by cases l.setting <;> exact Nat.succ_pos _
  unfold LineState.sample
  split
  · exact pos
  · split
    · exact pos
    · split
      · exact pos
      · rename_i below
        exact Nat.not_le.mp below

theorem State.sampleLine_preserves (line : PulseLine) (high : Bool) : s.Preserves (s.sampleLine line high) := by
  have restart (p : PairState) (h : p.InRange) : (p.sampleRestart high).InRange :=
    ⟨p.restartLine.sample_inRange high, h.2⟩
  have advance (p : PairState) (h : p.InRange) : (p.sampleAdvance high).InRange :=
    ⟨h.1, p.advanceLine.sample_inRange high⟩
  cases line with
  | fra => exact .pairs (restart _) id
  | lna => exact .pairs (advance _) id
  | frb => exact .pairs id (restart _)
  | lnb => exact .pairs id (advance _)

/-! #### The lanes (R136 to R138) -/

theorem State.Preserves.lane {l : LaneId} {x : Lane} (keeps : (s.lane l).Agrees → x.Agrees) :
    s.Preserves (s.putLane l x) where
  part := id
  load := id
  lanes h m := by
    rw [State.lane_putLane]
    split
    · exact keeps (h l)
    · exact h m

/-- An answer to the lane's request: the lane goes from WAITING to ANSWERED (R137). -/
theorem State.Answers.preserves {l : LaneId} (h : s.Answers l t) (waits : (s.lane l).state = .waiting) :
    s.Preserves t := by
  obtain ⟨u, a, same, rfl⟩ := h
  have lane : u.lane l = s.lane l := congrArg (fun c : Controls => c.lanes[l]) same
  refine (State.Preserves.of_controls same).trans (.lane fun agrees => ?_)
  rw [lane] at agrees ⊢
  obtain ⟨_, _, words, short, _⟩ := agrees
  have noWords : (s.lane l).words = [] := by
    by_contra some
    exact absurd ((words some).symm.trans waits) (by decide)
  exact ⟨by simp, by simp, fun some => absurd noWords some, short, fun _ => rfl⟩

section
variable {x : Lane}

theorem Lane.Agrees.word (h : x.Agrees) (idle : x.state = .idle) (room : x.words.length < 2) (word : Word32) :
    ({ x with words := x.words ++ [word] } : Lane).Agrees :=
  ⟨h.1, h.2.1, fun _ => idle, by simp; omega, h.2.2.2.2⟩

theorem Lane.Agrees.take (h : x.Agrees) (idle : x.state = .idle) (word : Word32) : (x.take word).Agrees := by
  obtain ⟨_, answered, _, _, offers⟩ := h
  have empty : x.answer.isSome = false := by
    rw [← Bool.not_eq_true, ← answered, idle]
    simp
  refine ⟨by simp [Lane.take], ?_, fun some => absurd rfl some, by simp [Lane.take], offers⟩
  simp [Lane.take, empty]

theorem Lane.Agrees.withdraw (h : x.Agrees) : ({ x with words := [] } : Lane).Agrees :=
  ⟨h.1, h.2.1, fun some => absurd rfl some, Nat.zero_le 2, h.2.2.2.2⟩

theorem Lane.Agrees.messageTaken (h : x.Agrees) : x.messageTaken.Agrees := by
  obtain ⟨waiting, answered, words, short, offers⟩ := id h
  unfold Lane.messageTaken
  split
  · exact h
  · rename_i offered
    have full : x.state = .answered := answered.mpr (offers offered)
    have noRequest : ¬ x.request.isSome = true := by
      rw [← waiting, full]
      simp
    exact ⟨by simpa using noRequest, by simp, fun _ => rfl, short, by simp⟩
  · exact ⟨waiting, answered, words, short, by simp⟩

end

end

end Sys2Proof.Machine

/-! ### The load goes on, or ends -/

namespace Sys2Proof.Machine

/-! #### A load in progress (R164 to R167) -/

/-- `m` is the loader with what a completed part of the image holds noted: counts, sum, held settings, flags. -/
structure Loader.Notes (l m : Loader) : Prop where
  phase : m.phase = l.phase
  started : m.started = l.started
  result : m.result = l.result
  settings : ∀ h, m.settings = some h → l.settings = some h ∨ h.InRange

section
variable {l m : Loader}

theorem Loader.fail_continues (was : l.phase ≠ .idle) (f : LoadFault) (bus : List BusEvent) :
    l.Continues (l.fail f bus) where
  was := was
  goes := by simp
  outcome := rfl
  range h := ⟨h.settings, h.attempts, by simp⟩
  start _ := by simp [Loader.StartAgrees, LoadPhase.Reading]

theorem Loader.failReleased_continues (was : l.phase ≠ .idle) (f : LoadFault) (bus : List BusEvent) :
    l.Continues (l.failReleased f bus) where
  was := was
  goes := by simp
  outcome := rfl
  range h := ⟨h.settings, h.attempts, by simp⟩
  start _ := by simp [Loader.StartAgrees, LoadPhase.Reading]

theorem Loader.held_continues (on : l.onBus = true) : l.Continues l.held := by
  have was : l.phase ≠ .idle := fun idle => by simp [Loader.onBus, idle] at on
  unfold Loader.held
  split
  · exact l.failReleased_continues was _ _
  · split <;> exact l.failReleased_continues was _ _

theorem Loader.beginAttempt_continues (checking : l.phase = .busCheck) (imga : BitVec 3) (pulses : Nat) :
    l.Continues (l.beginAttempt imga pulses) where
  was := by simp [checking]
  goes := by simp [Loader.beginAttempt]
  outcome := rfl
  range h := ⟨h.settings, h.oneMore checking, by simp [Loader.beginAttempt]⟩
  start _ := ⟨fun _ => rfl, by simp [Loader.beginAttempt]⟩

theorem Loader.endAttempt_continues (was : l.phase ≠ .idle) (few : l.result.attempts < 4) (sent : List BusEvent) :
    l.Continues (l.endAttempt sent) where
  was := was
  goes := by simp
  outcome := rfl
  range h := ⟨h.settings, h.attempts, fun _ => few⟩
  start _ := ⟨by simp [LoadPhase.Reading], fun _ => rfl⟩

/-- A completed part goes on to a further phase of the read. -/
theorem Loader.proceed_continues {p : LoadPhase} (was : l.phase.Reading) (next : p.Reading) (notes : l.Notes m)
    (before : List BusEvent) (bytes : List Byte) : l.Continues (m.proceed p before bytes) := by
  obtain ⟨phase, started, result, settings⟩ := notes
  have noted : l.Continues m :=
    ⟨was.ne_idle, phase ▸ was.ne_idle, by rw [result],
      fun h => ⟨fun x held => (settings x held).elim (h.settings x) id, result ▸ h.attempts,
        fun check => result ▸ h.oneMore (phase ▸ check)⟩,
      fun h => by unfold Loader.StartAgrees; rwa [phase, started]⟩
  have reads : p ≠ .busCheck := by rcases next with rfl | rfl | ⟨i, rfl⟩ | rfl <;> simp
  refine ⟨was.ne_idle, ?_, by simp [result], fun h => ?_, fun h => ?_⟩
  · rw [Loader.proceed_phase]
    split
    · simp
    · exact next.ne_idle
  · obtain ⟨settings, attempts, _⟩ := noted.range h
    refine ⟨by simpa using settings, by simpa using attempts, fun check => ?_⟩
    rw [Loader.proceed_phase] at check
    split at check
    · cases check
    · exact absurd check reads
  · have on : (m.proceed p before bytes).started = true := by simp [started, h.1 was]
    refine ⟨fun _ => on, fun off => ?_⟩
    rw [Loader.proceed_phase] at off
    split at off
    · simp at off
    · exact absurd off (by simp [next.ne_idle, reads])

theorem Loader.header_continues (on : l.phase = .addressing) (before : List BusEvent) (bytes : List Byte) :
    l.Continues (l.header before bytes) := by
  unfold Loader.header
  split
  · exact l.fail_continues (by simp [on]) _ _
  · refine Loader.proceed_continues (.inl on) (.inr (.inl rfl)) ?_ _ _
    exact ⟨rfl, rfl, rfl, fun _ => .inl⟩

/-- One byte is at most 255. -/
theorem fieldAt_one_le (bytes : List Byte) (off : Nat) : fieldAt bytes off 1 ≤ 255 := by
  unfold fieldAt
  rcases bytes.drop off with _ | ⟨b, rest⟩
  · exact Nat.zero_le 255
  · have := b.isLt
    simp [natOf]
    omega

theorem heldSettingsOf_inRange {bytes : List Byte} {h : HeldSettings} (ok : heldSettingsOf bytes = some h) :
    h.InRange := by
  unfold heldSettingsOf at ok
  split at ok
  · rename_i fields
    obtain ⟨pos, le, _, limit⟩ := fields
    cases ok
    exact ⟨pos, le, limit, fieldAt_one_le bytes 4⟩
  · cases ok

theorem Loader.after_reading (l : Loader) (index : Nat) : (l.after index).Reading := by
  unfold Loader.after
  split
  · exact .inr (.inr (.inl ⟨_, rfl⟩))
  · exact .inr (.inr (.inr rfl))

theorem Loader.settingsRecord_continues (on : l.phase = .settings) (bytes : List Byte) :
    l.Continues (l.settingsRecord bytes) := by
  unfold Loader.settingsRecord
  split
  · exact l.fail_continues (by simp [on]) _ _
  · rename_i held ok
    refine Loader.proceed_continues (.inr (.inl on)) (l.after_reading 0) ?_ _ _
    exact ⟨rfl, rfl, rfl, fun h e => .inr (Option.some.inj e ▸ heldSettingsOf_inRange ok)⟩

theorem Loader.agentIndex_some {i : Nat} (h : l.agentIndex = some i) : l.phase = .record i := by
  unfold Loader.agentIndex at h
  split at h
  · split at h <;> simp_all
  · cases h

theorem Loader.windowIndex_some {i : Nat} (h : l.windowIndex = some i) : l.phase = .record i := by
  unfold Loader.windowIndex at h
  split at h
  · split at h <;> simp_all
  · cases h

end

/-! #### The load and the three properties -/

section
variable {s t u : State}

theorem State.controls_withLoader (same : u.controls = s.controls) (m : Loader) :
    ({ u with loader := m } : State).controls = { s.controls with loader := m } :=
  congrArg (fun c : Controls => { c with loader := m }) same

/-- The loader goes on with its load, and no other control changes. -/
theorem State.Preserves.load_continues {m : Loader} (same : t.controls = { s.controls with loader := m })
    (go : s.loader.Continues m) : s.Preserves t := by
  have goes : s.Preserves { s with loader := m } := by
    refine ⟨fun h => ?_, fun h => ?_, id⟩
    · obtain ⟨time, limit, loader, pairs⟩ := partInRange_iff.mp h
      exact partInRange_iff.mpr ⟨time, limit, go.range loader, pairs⟩
    · obtain ⟨service, pending, low, start⟩ := h
      have running := service.mpr go.was
      refine ⟨⟨fun _ => go.goes, fun _ => running⟩, ⟨fun _ => ?_, fun _ => go.goes⟩,
        fun held => absurd (low held) go.was, go.start start⟩
      exact go.outcome.trans (pending.mp go.was)
  exact goes.trans (.of_controls same)

/-- A load starts while RST_N is high (R162, R163, R169). -/
theorem State.startLoad_preserves (up : s.rstLow = false) : s.Preserves s.startLoad where
  part h := by
    obtain ⟨time, limit, _, pairs⟩ := partInRange_iff.mp h
    exact partInRange_iff.mpr
      ⟨time, limit, ⟨fun _ none => (by cases none), Nat.zero_le 4, fun _ => Nat.succ_pos 3⟩, pairs⟩
  load _ :=
    ⟨by simp [State.startLoad], by simp [State.startLoad],
      fun low => absurd (up.symm.trans low) Bool.false_ne_true,
      by simp [State.startLoad], by simp [State.startLoad, Loader.reset]⟩
  lanes := id

/-- A load ends in READY with a result that is not PENDING, and no other control changes (R167, R168). -/
theorem State.Preserves.load_ends {o : LoadOutcome} {f : Option LoadFault}
    (same : t.controls = { s.controls with service := .ready, loader := s.loader.ended o f }) (final : o ≠ .pending) :
    s.Preserves t := by
  have ends : s.Preserves { s with service := .ready, loader := s.loader.ended o f } := by
    refine ⟨fun h => ?_, fun _ => ?_, id⟩
    · obtain ⟨time, limit, loader, pairs⟩ := partInRange_iff.mp h
      exact partInRange_iff.mpr
        ⟨time, limit, ⟨fun _ none => (by cases none), loader.attempts, fun check => (by cases check)⟩, pairs⟩
    · exact ⟨by simp [Loader.ended, Loader.reset], by simp [Loader.ended, Loader.reset, final],
        fun _ => rfl, by simp [Loader.ended, Loader.reset], fun _ => rfl⟩
  exact ends.trans (.of_controls same)

theorem State.agentRecord_preserves {index : Nat} (on : s.loader.phase = .record index) (bytes : List Byte) :
    s.Preserves (s.agentRecord index bytes) := by
  unfold State.agentRecord
  split
  · exact .load_continues rfl (s.loader.fail_continues (by simp [on]) _ _)
  · rename_i a r _
    refine .load_continues (State.controls_withLoader (s.controls_loadAgent a r) _) ?_
    refine Loader.proceed_continues (.inr (.inr (.inl ⟨_, on⟩))) (s.loader.after_reading index) ?_ _ _
    exact ⟨rfl, rfl, rfl, fun _ => .inl⟩

theorem State.windowRecord_preserves {index : Nat} (on : s.loader.phase = .record index) (bytes : List Byte) :
    s.Preserves (s.windowRecord index bytes) := by
  have fails (why : Reason) (bus : List BusEvent) :
      s.Preserves { s with loader := s.loader.fail (.record index why) bus } :=
    .load_continues rfl (s.loader.fail_continues (by simp [on]) _ _)
  simp only [State.windowRecord]
  split
  · exact fails _ _
  · split
    · exact fails _ _
    · refine .load_continues (State.controls_withLoader (s.controls_putWindow _ _) _) ?_
      refine Loader.proceed_continues (.inr (.inr (.inl ⟨_, on⟩))) (s.loader.after_reading index) ?_ _ _
      exact ⟨rfl, rfl, rfl, fun _ => .inl⟩

theorem State.settingsApplied_preserves : s.Preserves s.settingsApplied where
  part h := by
    unfold State.settingsApplied
    split
    · exact h
    · rename_i held settings
      obtain ⟨_, _, loader, pairs⟩ := partInRange_iff.mp h
      obtain ⟨pos, le, limitPos, limitLe⟩ := loader.settings held settings
      exact partInRange_iff.mpr ⟨Timebase.load_inRange pos le, ⟨limitPos, limitLe⟩, loader, pairs⟩
  load h := by unfold State.settingsApplied; split <;> exact h
  lanes h := by unfold State.settingsApplied; split <;> exact h

/-- The state of a load that succeeds with its settings applied and its windows activated (R168). -/
def State.flaggedActivated (s : State) : State :=
  (List.finRange 64).foldl (State.activateFlagged s.loader.activateAtEnd) s.settingsApplied

/-- The same with the Timebase run where the settings say so (R168). -/
def State.ranAtEnd (s : State) : State :=
  match s.loader.settings with
  | none => s.flaggedActivated
  | some h => if h.runAtEnd then s.flaggedActivated.runTimebase else s.flaggedActivated

theorem State.loadSucceeded_eq (s : State) :
    s.loadSucceeded
      = State.raise { s.ranAtEnd with service := .ready, loader := s.loader.ended .done none } .loadDone := by
  rcases settings : s.loader.settings with _ | h <;>
    simp only [State.loadSucceeded, State.ranAtEnd, State.flaggedActivated, State.settingsApplied, settings]

theorem State.controls_flaggedActivated (s : State) : s.flaggedActivated.controls = s.settingsApplied.controls :=
  State.controls_foldl _ (fun t k => by unfold State.activateFlagged; split <;> simp) _

theorem State.ranAtEnd_preserves : s.Preserves s.ranAtEnd := by
  have activated : s.Preserves s.flaggedActivated :=
    s.settingsApplied_preserves.trans (.of_controls s.controls_flaggedActivated)
  unfold State.ranAtEnd
  split
  · exact activated
  · split
    · exact activated.trans (.timebase Timebase.InRange.start)
    · exact activated

theorem State.ranAtEnd_loader (s : State) : s.ranAtEnd.loader = s.loader := by
  have activated : s.flaggedActivated.loader = s.loader := by
    have applied : s.settingsApplied.loader = s.loader := by unfold State.settingsApplied; split <;> rfl
    exact (congrArg Controls.loader s.controls_flaggedActivated).trans applied
  unfold State.ranAtEnd
  split
  · exact activated
  · split <;> exact activated

theorem State.loadSucceeded_preserves : s.Preserves s.loadSucceeded := by
  rw [State.loadSucceeded_eq]
  refine s.ranAtEnd_preserves.trans (.load_ends (o := .done) (f := none) ?_ (by simp))
  rw [State.controls_raise, s.ranAtEnd_loader]
  rfl

theorem State.loadFailed_preserves (f : LoadFault) : s.Preserves (s.loadFailed f) := by
  refine .load_ends (o := .failed) (f := some f) ?_ (by simp)
  simp only [State.loadFailed, State.controls_raise]
  exact congrArg (fun c : Controls => { c with service := .ready, loader := s.loader.ended .failed (some f) })
    (s.controls_clearSlots _)

end

end Sys2Proof.Machine

/-! ### Every step keeps the part, the load and the lanes -/

namespace Sys2Proof.Machine

section
variable {s t : State}

/-! #### Commands, requests and events that are taken -/

/-- A command is taken only while RST_N is high (R162). -/
theorem takeCommand_preserves {code : Byte} {c : Instr} {body : State → State × Reply}
    (h : takeCommand code c body s = .next t) (m : ∀ u : State, u.rstLow = false → u.Preserves (body u).1) :
    s.Preserves t := by
  by_cases due : s.commandDue c = true
  · rw [takeCommand_due due] at h
    cases h
    have taken := s.controls_commandTaken c
    have up : (s.commandTaken c).rstLow = false := by
      have low : (s.commandTaken c).rstLow = s.rstLow := congrArg Controls.rstLow taken
      simp only [State.commandDue, Bool.and_eq_true, Bool.not_eq_true'] at due
      exact low.trans due.1.1
    exact ((State.Preserves.of_controls taken).trans (m _ up)).trans (.of_controls (State.controls_complete _ _ _))
  · rw [takeCommand_notDue (by simpa using due)] at h
    cases h
    exact .refl s

/-- A command that leaves every control alone. -/
theorem takeCommand_preserves_of_controls {code : Byte} {c : Instr} {body : State → State × Reply}
    (h : takeCommand code c body s = .next t) (same : ∀ u : State, (body u).1.controls = u.controls) : s.Preserves t :=
  takeCommand_preserves h fun u _ => .of_controls (same u)

theorem takeRequest_preserves {c : Instr} {l : LaneId} {r : Request} {body : State → State}
    (h : takeRequest c l r body s = .next t) (answers : ∀ u : State, u.Answers l (body u)) : s.Preserves t := by
  refine takeRequest_cases h (.refl s) fun due => ?_
  simp only [State.requestDue, Bool.and_eq_true, beq_iff_eq] at due
  obtain ⟨⟨⟨_, waits⟩, _⟩, _⟩ := due
  exact (State.Preserves.of_controls (s.controls_laneGranted l)).trans ((answers _).preserves waits)

theorem takeEvent_preserves {can : Bool} {effect : State} (h : takeEvent can effect s = .next t)
    (m : can = true → s.Preserves effect) : s.Preserves t :=
  takeEvent_cases h (.refl s) m

theorem takeEvent_preserves_of_controls {can : Bool} {effect : State} (h : takeEvent can effect s = .next t)
    (same : effect.controls = s.controls) : s.Preserves t :=
  takeEvent_preserves h fun _ => .of_controls same

/-! #### The bodies of the commands -/

theorem State.controls_withSlot {slot : Byte} {f : SlotId → State × Reply}
    (same : ∀ k, (f k).1.controls = s.controls) : (s.withSlot slot f).1.controls = s.controls := by
  unfold State.withSlot
  split
  · rfl
  · exact same _

section
variable (u : State)

theorem agentSetReply_controls (agent enabled cls lane quota : Byte) :
    (agentSetReply agent enabled cls lane quota u).1.controls = u.controls := by
  unfold agentSetReply
  split
  · rfl
  · exact u.controls_loadAgent _ _

theorem windowCreateReply_controls (slot role : Byte) (b : FieldBlock) :
    (windowCreateReply slot role b u).1.controls = u.controls := by
  unfold windowCreateReply
  split <;> rfl

theorem windowModifyReply_controls (slot select : Byte) (b : FieldBlock) :
    (windowModifyReply slot select b u).1.controls = u.controls :=
  State.controls_withSlot fun k => by split <;> rfl

theorem activateReply_controls (slot : Byte) : (activateReply slot u).1.controls = u.controls :=
  State.controls_withSlot fun k => by
    split
    · rfl
    · split
      · rfl
      · exact u.controls_activateUnit k

theorem disarmReply_controls (slot : Byte) : (disarmReply slot u).1.controls = u.controls :=
  State.controls_withSlot fun k => by
    split
    · rfl
    · split
      · rfl
      · exact u.controls_modifyWindows _ _

theorem freezeReply_controls (slot : Byte) : (freezeReply slot u).1.controls = u.controls :=
  State.controls_withSlot fun k => by
    split
    · rfl
    · split
      · rfl
      · exact u.controls_freezeUnit k

theorem thawReply_controls (slot : Byte) : (thawReply slot u).1.controls = u.controls :=
  State.controls_withSlot fun k => by
    split
    · rfl
    · split
      · rfl
      · exact u.controls_foldl State.controls_thawSlot _

theorem renewReply_controls (slot : Byte) (count : BitVec 16) : (renewReply slot count u).1.controls = u.controls :=
  State.controls_withSlot fun k => by
    split
    · rfl
    · split
      · rfl
      · split <;> rfl

theorem retireReply_controls (slot force : Byte) : (retireReply slot force u).1.controls = u.controls :=
  State.controls_withSlot fun k => by
    split
    · rfl
    · split
      · split
        · exact (State.controls_clearSlots _ _).trans (u.controls_endClaims _)
        · rfl
      · split
        · rfl
        · exact u.controls_retireUnit _ _

theorem mapWriteReply_controls (slot index : Byte) (word : Word32) :
    (mapWriteReply slot index word u).1.controls = u.controls :=
  State.controls_withSlot fun k => by
    simp only
    split
    · rfl
    · split <;> rfl

theorem mapCommitReply_controls (slot : Byte) : (mapCommitReply slot u).1.controls = u.controls :=
  State.controls_withSlot fun k => by
    simp only
    split <;> rfl

theorem gateBindReply_controls (gate bind slot polarity mode : Byte) :
    (gateBindReply gate bind slot polarity mode u).1.controls = u.controls := by
  simp only [gateBindReply]
  split
  · rfl
  · split
    · rfl
    · split
      · split <;> rfl
      · rfl

theorem clearAllReply_controls : (clearAllReply u).1.controls = u.controls := by
  simp [clearAllReply, State.clearTables, State.clearSlots, State.controls]

theorem timebaseReply_preserves (divider : BitVec 16) (flags run : Byte) :
    u.Preserves (timebaseReply divider flags run u).1 := by
  unfold timebaseReply
  split
  · exact .refl u
  · exact .timebase fun h => h.command divider flags run

theorem settingsReply_preserves (limit : Byte) : u.Preserves (settingsReply limit u).1 := by
  unfold settingsReply
  split
  · exact .refl u
  · exact .limit (by bv_omega) (by omega)

theorem pulseSetReply_preserves (enables qualification : Byte) :
    u.Preserves (pulseSetReply enables qualification u).1 := by
  unfold pulseSetReply
  split
  · have configured {p : PairState} (enabled : Bool) (restart advance : Qualification) (h : p.InRange) :
        (p.configure enabled restart advance).InRange :=
      ⟨LineState.qualify_inRange h.1 restart, LineState.qualify_inRange h.2 advance⟩
    exact .pairs (configured _ _ _) (configured _ _ _)
  · exact .refl u

theorem reloadReply_preserves (up : u.rstLow = false) : u.Preserves (reloadReply u).1 := by
  unfold reloadReply
  split
  · exact u.startLoad_preserves up
  · exact .refl u

theorem loadAbortReply_preserves : u.Preserves (loadAbortReply u).1 := by
  unfold loadAbortReply
  split
  · exact ⟨id, id, id⟩
  · exact .refl u

/-! #### The bodies of the lane requests -/

theorem State.refuseRequest_answers (l : LaneId) (r : Request) (why : Reason) (slot : Option Byte) :
    u.Answers l (u.refuseRequest l r why slot) :=
  ⟨_, _, by split <;> simp, rfl⟩

theorem State.lookup_answers (l : LaneId) (r : Request) (access : ClaimKind) : u.Answers l (u.lookup l r access) := by
  unfold State.lookup
  split
  · exact u.refuseRequest_answers l r _ _
  · exact ⟨_, _, u.controls_grantLookup _, rfl⟩

theorem State.claim_answers (l : LaneId) (r : Request) (kind : ClaimKind) : u.Answers l (u.claim l r kind) := by
  unfold State.claim
  split
  · exact u.refuseRequest_answers l r _ _
  · unfold State.decideClaim
    split
    · exact ⟨_, _, rfl, rfl⟩
    · split
      · exact u.refuseRequest_answers l r _ _
      · split
        · exact ⟨_, _, u.controls_makeHeld _ _ _ _, rfl⟩
        · exact ⟨_, _, u.controls_makeWaiting _ _ _ _ _, rfl⟩

theorem State.releaseOnLane_answers (l : LaneId) (r : Request) : u.Answers l (u.releaseOnLane l r) := by
  unfold State.releaseOnLane
  split
  · exact u.refuseRequest_answers l r _ _
  · split
    · exact u.refuseRequest_answers l r _ _
    · split
      · exact ⟨_, _, u.controls_releaseHeld _ _, rfl⟩
      · exact ⟨_, _, u.controls_withdraw _ _, rfl⟩

theorem State.renewOnLane_answers (l : LaneId) (r : Request) : u.Answers l (u.renewOnLane l r) := by
  unfold State.renewOnLane
  split
  · exact u.refuseRequest_answers l r _ _
  · exact ⟨_, _, u.controls_modifyWindow _ _, rfl⟩

end

/-! #### The arbiter's lane waits -/

/-- The arbiter serves a requester that waits (R142). -/
theorem State.requesting_of_arbiterChoice {q : Requester} (h : s.arbiterChoice = some q) : s.requesting q = true :=
  List.find?_some h

theorem State.requesting_lane (l : LaneId) : s.requesting (laneRequester l) = ((s.lane l).state == .waiting) :=
  dif_pos l.isLt

/-- The lookup in turn is on a lane that waits. -/
theorem State.lookupInTurn_waits {l : LaneId} {r : Request} {access : ClaimKind}
    (h : s.lookupInTurn = some (l, r, access)) : (s.lane l).state = .waiting := by
  obtain ⟨j, found, h⟩ := Option.bind_eq_some_iff.mp h
  obtain ⟨_, _, h⟩ := Option.bind_eq_some_iff.mp h
  have lane : j = l := by
    split at h
    · cases h; rfl
    · split at h <;> cases h
      rfl
  have turn : s.arbiterChoice = some (laneRequester j) := by simpa using List.find?_some found
  simpa [State.requesting_lane, lane] using State.requesting_of_arbiterChoice turn

theorem execLeaseExpiry_preserves {k : SlotId} (h : execLeaseExpiry k s = .next t) : s.Preserves t := by
  unfold execLeaseExpiry at h
  split at h
  · rename_i l r access inTurn
    have waits := State.lookupInTurn_waits (Option.eq_some_of_filter_eq_some inTurn)
    exact takeEvent_preserves h fun _ =>
      (State.Preserves.of_controls (s.controls_granted _)).trans ((State.lookup_answers _ l r access).preserves waits)
  · exact takeEvent_preserves_of_controls h s.controls_windowTick

/-! #### Reset (R162) -/

/-- The straps are sampled at the rising edge of RST_N, when no load is in progress (R162, R163). -/
theorem State.released_preserves (low : s.rstLow = true) (loaden : Bool) (imga : BitVec 3) :
    s.Preserves (s.released loaden imga) := by
  have ready : s.Preserves { s with rstLow := false, imga := imga, service := .ready } := by
    refine ⟨id, fun h => ?_, id⟩
    obtain ⟨_, pending, held, start⟩ := h
    exact ⟨by simp [held low], pending, fun up => absurd up Bool.false_ne_true, start⟩
  cases loaden with
  | false => exact ready
  | true => exact ready.trans (State.startLoad_preserves rfl)

theorem execResetRelease_preserves {loaden : Bool} {imga : BitVec 3} (h : execResetRelease loaden imga s = .next t) :
    s.Preserves t := by
  unfold execResetRelease at h
  split at h
  · rename_i low
    cases h
    exact State.released_preserves low loaden imga
  · cases h
    exact .refl s

theorem reset_lane (l : LaneId) : State.reset.lane l = Lane.reset := by
  simp [State.lane, State.reset]

theorem Lane.reset_agrees : Lane.reset.Agrees :=
  ⟨by simp [Lane.reset], by simp [Lane.reset], fun _ => rfl, Nat.zero_le 2, by simp [Lane.reset]⟩

theorem reset_partInRange : PartInRange State.reset :=
  partInRange_iff.mpr
    ⟨⟨by decide, by decide, fun _ => rfl, fun no => absurd no Bool.false_ne_true⟩, by decide,
      ⟨fun _ none => (by cases none), by decide, fun check => (by cases check)⟩,
      ⟨Nat.succ_pos 0, Nat.succ_pos 0⟩, Nat.succ_pos 0, Nat.succ_pos 0⟩

theorem reset_loadingAgrees : LoadingAgrees State.reset :=
  ⟨by simp [State.reset, Loader.reset], by simp [State.reset, Loader.reset], fun _ => rfl,
    by simp [State.reset, Loader.reset], fun _ => rfl⟩

theorem reset_lanesAgree : LanesAgree State.reset := fun l => reset_lane l ▸ Lane.reset_agrees

/-! #### A command and a step -/

theorem exec_preserves {c : Instr} (h : exec c s = .next t) : s.Preserves t := by
  cases c with
  | deviceReset =>
    cases h
    have reset : State.reset.Preserves { State.reset with naks := s.naks, pending := s.pending } := .of_controls rfl
    exact ⟨fun _ => reset.part reset_partInRange, fun _ => reset.load reset_loadingAgrees,
      fun _ => reset.lanes reset_lanesAgree⟩
  | resetRelease loaden imga => exact execResetRelease_preserves h
  | frameStart => exact takeEvent_preserves_of_controls h rfl
  | frameEnd bits extra => exact takeEvent_preserves_of_controls h rfl
  | readResponse bits => exact takeEvent_preserves_of_controls h rfl
  | shiftOutCopy => exact takeEvent_preserves_of_controls h rfl
  | status => exact takeCommand_preserves_of_controls h fun _ => rfl
  | agentSet a e c l q => exact takeCommand_preserves_of_controls h fun u => agentSetReply_controls u a e c l q
  | agentQuery a => exact takeCommand_preserves_of_controls h fun u => by rw [agentQueryReply_fst]
  | windowCreate slot r b => exact takeCommand_preserves_of_controls h fun u => windowCreateReply_controls u slot r b
  | windowModify slot x b => exact takeCommand_preserves_of_controls h fun u => windowModifyReply_controls u slot x b
  | windowQuery slot => exact takeCommand_preserves_of_controls h fun u => by rw [windowQueryReply_fst]
  | activate slot => exact takeCommand_preserves_of_controls h fun u => activateReply_controls u slot
  | disarm slot => exact takeCommand_preserves_of_controls h fun u => disarmReply_controls u slot
  | freeze slot => exact takeCommand_preserves_of_controls h fun u => freezeReply_controls u slot
  | thaw slot => exact takeCommand_preserves_of_controls h fun u => thawReply_controls u slot
  | renew slot count => exact takeCommand_preserves_of_controls h fun u => renewReply_controls u slot count
  | retire slot force => exact takeCommand_preserves_of_controls h fun u => retireReply_controls u slot force
  | mapWrite slot i word => exact takeCommand_preserves_of_controls h fun u => mapWriteReply_controls u slot i word
  | mapRead slot index selector => exact takeCommand_preserves_of_controls h fun u => by rw [mapReadReply_fst]
  | mapCommit slot => exact takeCommand_preserves_of_controls h fun u => mapCommitReply_controls u slot
  | claimQuery e => exact takeCommand_preserves_of_controls h fun u => by rw [claimQueryReply_fst]
  | clearAll => exact takeCommand_preserves_of_controls h clearAllReply_controls
  | gateBind g b k p m => exact takeCommand_preserves_of_controls h fun u => gateBindReply_controls u g b k p m
  | gatesSet levels => exact takeCommand_preserves_of_controls h fun _ => rfl
  | attentionEnable e => exact takeCommand_preserves_of_controls h fun _ => rfl
  | ack causes slots => exact takeCommand_preserves_of_controls h fun _ => rfl
  | readExpired => exact takeCommand_preserves_of_controls h fun _ => rfl
  | reportRead => exact takeCommand_preserves_of_controls h fun _ => rfl
  | reportClear => exact takeCommand_preserves_of_controls h fun _ => rfl
  | timebase divider flags run => exact takeCommand_preserves h fun u _ => timebaseReply_preserves u divider flags run
  | settings limit => exact takeCommand_preserves h fun u _ => settingsReply_preserves u limit
  | pulseSet e q => exact takeCommand_preserves h fun u _ => pulseSetReply_preserves u e q
  | reload => exact takeCommand_preserves h reloadReply_preserves
  | loadAbort => exact takeCommand_preserves h fun u _ => loadAbortReply_preserves u
  | lookupRead l r =>
    exact takeRequest_preserves (c := .lookupRead l r) (r := r) (body := fun u => u.lookup l r .read) h
      fun u => u.lookup_answers l r .read
  | lookupWrite l r =>
    exact takeRequest_preserves (c := .lookupWrite l r) (r := r) (body := fun u => u.lookup l r .write) h
      fun u => u.lookup_answers l r .write
  | claimRead l r =>
    exact takeRequest_preserves (c := .claimRead l r) (r := r) (body := fun u => u.claim l r .read) h
      fun u => u.claim_answers l r .read
  | claimWrite l r =>
    exact takeRequest_preserves (c := .claimWrite l r) (r := r) (body := fun u => u.claim l r .write) h
      fun u => u.claim_answers l r .write
  | release l r =>
    exact takeRequest_preserves (c := .release l r) (r := r) (body := fun u => u.releaseOnLane l r) h
      fun u => u.releaseOnLane_answers l r
  | renewRequest l r =>
    exact takeRequest_preserves (c := .renewRequest l r) (r := r) (body := fun u => u.renewOnLane l r) h
      fun u => u.renewOnLane_answers l r
  | badKind l r =>
    exact takeRequest_preserves (c := .badKind l r) (r := r) (body := fun u => u.answerBadKind l r) h
      fun u => u.refuseRequest_answers l r _ none
  | requestWord l word =>
    exact takeEvent_preserves h fun can => by
      simp only [Lane.takesWords, Bool.and_eq_true, beq_iff_eq, decide_eq_true_eq] at can
      exact .lane fun agrees => agrees.word can.1 can.2 word
  | requestTake l word =>
    exact takeEvent_preserves h fun can => by
      simp only [Lane.takesWords, Bool.and_eq_true, beq_iff_eq] at can
      exact .lane fun agrees => agrees.take can.1 word
  | requestWithdraw l => exact takeEvent_preserves h fun _ => .lane Lane.Agrees.withdraw
  | answerOffer l =>
    exact takeEvent_preserves h fun can => .lane fun ⟨waiting, answered, words, short, _⟩ =>
      ⟨waiting, answered, words, short, fun _ => (Bool.and_eq_true_iff.mp can).2⟩
  | noticeDelivery l =>
    simp only [exec, execNoticeDelivery] at h
    split at h
    · cases h
      exact .refl s
    · refine takeEvent_preserves h fun _ => ?_
      refine State.Preserves.trans (.lane fun ⟨waiting, answered, words, short, _⟩ => ?_)
        (.of_controls (State.controls_putEntry _ _ _))
      exact ⟨waiting, answered, words, short, fun no => by cases no⟩
  | messageTaken l => exact takeEvent_preserves h fun _ => .lane Lane.Agrees.messageTaken
  | tick => exact takeEvent_preserves h fun _ => .timebase Timebase.InRange.intervalEnd
  | windowTick => exact takeEvent_preserves_of_controls h s.controls_windowTick
  | leaseExpiry k => exact execLeaseExpiry_preserves h
  | idleExpiry k => exact takeEvent_preserves_of_controls h s.controls_windowTick
  | drainExpiry k => exact takeEvent_preserves_of_controls h s.controls_windowTick
  | claimTick => exact takeEvent_preserves_of_controls h s.controls_claimTick
  | revocation i => exact takeEvent_preserves_of_controls h s.controls_claimTick
  | waitExpiry i => exact takeEvent_preserves_of_controls h s.controls_claimTick
  | restart p => exact takeEvent_preserves_of_controls h (s.controls_restart p)
  | advance p => exact takeEvent_preserves_of_controls h (s.controls_advance p)
  | pulseLineSample line high => exact takeEvent_preserves h fun _ => State.sampleLine_preserves line high
  | busCheck n =>
    refine takeEvent_preserves h fun can => .load_continues rfl ?_
    simp only [Bool.and_eq_true, beq_iff_eq] at can
    split
    · exact Loader.beginAttempt_continues can.1 _ _
    · exact Loader.failReleased_continues (by simp [can.1]) _ _
  | addressNak =>
    refine takeEvent_preserves h fun can => .load_continues rfl ?_
    have was : s.loader.phase ≠ .idle := by simp [beq_iff_eq.mp can]
    split
    · exact Loader.fail_continues was _ _
    · rename_i few
      exact Loader.endAttempt_continues was (Nat.not_le.mp few) _
  | offsetNak =>
    exact takeEvent_preserves h fun can =>
      .load_continues rfl (Loader.fail_continues (by simp [beq_iff_eq.mp can]) _ _)
  | busHeld => exact takeEvent_preserves h fun can => .load_continues rfl (Loader.held_continues can)
  | imageHeader bytes =>
    exact takeEvent_preserves h fun can =>
      .load_continues rfl (Loader.header_continues (beq_iff_eq.mp (Bool.and_eq_true_iff.mp can).2) _ _)
  | settingsRecord bytes =>
    exact takeEvent_preserves h fun can =>
      .load_continues rfl (Loader.settingsRecord_continues (beq_iff_eq.mp (Bool.and_eq_true_iff.mp can).2) _)
  | agentRecord bytes =>
    simp only [exec, execAgentRecord] at h
    split at h
    · cases h
      exact .refl s
    · rename_i inTurn
      exact takeEvent_preserves h fun _ => State.agentRecord_preserves (Loader.agentIndex_some inTurn) bytes
  | windowRecord bytes =>
    simp only [exec, execWindowRecord] at h
    split at h
    · cases h
      exact .refl s
    · rename_i inTurn
      exact takeEvent_preserves h fun _ => State.windowRecord_preserves (Loader.windowIndex_some inTurn) bytes
  | loadSuccess => exact takeEvent_preserves h fun _ => State.loadSucceeded_preserves
  | loadFailure =>
    simp only [exec, execLoadFailure] at h
    split at h
    · cases h
      exact .refl s
    · exact takeEvent_preserves h fun _ => State.loadFailed_preserves _

theorem step_preserves (h : step s = .next t) : s.Preserves t := by
  unfold step at h
  split at h
  · cases h
    unfold State.idleStep
    split
    · exact .refl s
    · exact .timebase Timebase.InRange.refclk
  · have popped (rest : List Instr) : s.Preserves { s with pending := rest } := .of_controls rfl
    exact (popped _).trans (exec_preserves h)

end

/-- Settles O58: each step is a change of the Timebase, the drain limit, the pulse lines, the load or one lane that
keeps all three properties, or leaves them all alone. -/
theorem stepsKeepPartLoadAndLanesAgreeing : Obligations.StepsKeepPartLoadAndLanesAgreeing :=
  ⟨fun _ _ part h => (step_preserves h).part part, fun _ _ load h => (step_preserves h).load load,
    fun _ _ lanes h => (step_preserves h).lanes lanes⟩

end Sys2Proof.Machine

/-! ### Reset (R162) -/

namespace Sys2Proof.Machine

/-! #### The reset values of each record -/

theorem reset_entry (i : EntryId) : State.reset.entry i = Entry.free := by
  simp [State.entry, State.reset]

theorem reset_agent (a : AgentId) : State.reset.agent a = AgentRecord.reset := by
  simp [State.agent, State.reset]

theorem reset_pair (p : PulsePair) : State.reset.pair p = PairState.reset := by
  cases p <;> rfl

/-! #### While RST_N is low -/

section
variable {s : State}

theorem takeCommand_low {code : Byte} {c : Instr} {body : State → State × Reply} (low : s.rstLow = true) :
    takeCommand code c body s = .next s :=
  takeCommand_notDue (by simp [State.commandDue, low])

theorem takeRequest_low {c : Instr} {l : LaneId} {r : Request} {body : State → State} (low : s.rstLow = true) :
    takeRequest c l r body s = .next s :=
  takeRequest_notDue (by simp [State.requestDue, low])

/-- While RST_N is low no event but the two of RST_N changes the part. -/
theorem exec_low {c : Instr} (low : s.rstLow = true) (notReset : c ≠ .deviceReset)
    (notRelease : ∀ loaden imga, c ≠ .resetRelease loaden imga) : exec c s = .next s := by
  cases c with
  | deviceReset => exact absurd rfl notReset
  | resetRelease loaden imga => exact absurd rfl (notRelease loaden imga)
  | status | agentSet | agentQuery | windowCreate | windowModify | windowQuery | activate | disarm | freeze | thaw
  | renew | retire | mapWrite | mapRead | mapCommit | claimQuery | clearAll | timebase | settings | pulseSet | gateBind
  | gatesSet | attentionEnable | ack | readExpired | reportRead | reportClear | reload | loadAbort => exact takeCommand_low low
  | lookupRead | lookupWrite | claimRead | claimWrite | release | renewRequest | badKind =>
    simp only [exec, execLookupRead, execLookupWrite, execClaimRead, execClaimWrite, execRelease, execRenewRequest,
      execBadKind, takeRequest_low low]
  | frameStart | frameEnd | readResponse | shiftOutCopy | requestWord | requestTake | requestWithdraw | answerOffer
  | messageTaken | tick | windowTick | idleExpiry | drainExpiry | claimTick | revocation | waitExpiry | restart
  | advance | pulseLineSample | busCheck | addressNak | offsetNak | busHeld | imageHeader | settingsRecord | loadSuccess =>
    exact takeEvent_low low
  | leaseExpiry k => simp only [exec, execLeaseExpiry]; split <;> exact takeEvent_low low
  | noticeDelivery l =>
    simp only [exec, execNoticeDelivery]
    split
    · rfl
    · exact takeEvent_low low
  | agentRecord bytes =>
    simp only [exec, execAgentRecord]
    split
    · rfl
    · exact takeEvent_low low
  | windowRecord bytes =>
    simp only [exec, execWindowRecord]
    split
    · rfl
    · exact takeEvent_low low
  | loadFailure =>
    simp only [exec, execLoadFailure]
    split
    · rfl
    · exact takeEvent_low low

end

/-- Settles O5: the records of every table are at their reset values, and no event but the two of RST_N is taken while
it is low. -/
theorem deviceResetGivesResetValues : Obligations.DeviceResetGivesResetValues := by
  refine ⟨fun _ => rfl, fun c s => exec_low, fun s low => by simp [State.twoWire, low], rfl, rfl, fun k => ?_,
    fun i => ?_, fun a => ?_, fun l => ?_, rfl, rfl, rfl, rfl, rfl, fun p => ?_, fun g => ?_, rfl, rfl, rfl, rfl, rfl,
    rfl, rfl, rfl, rfl, rfl, fun _ => rfl, rfl, rfl⟩
  · rw [reset_window]
    exact ⟨rfl, rfl, rfl, rfl⟩
  · rw [reset_entry]
    exact ⟨rfl, rfl, rfl, rfl⟩
  · rw [reset_agent]
    exact ⟨rfl, rfl, rfl, rfl, rfl⟩
  · rw [reset_lane]
    exact ⟨rfl, rfl, rfl, rfl, rfl⟩
  · rw [reset_pair]
    exact ⟨rfl, rfl, rfl, rfl, rfl⟩
  · rw [reset_gate]
    exact ⟨rfl, rfl, rfl, rfl, rfl⟩

/-! #### What the steps keep holds at reset -/

theorem reset_gatesFollow : GatesFollow State.reset := fun g => by
  rw [reset_gate]
  rfl

theorem reset_togglesQuiet : TogglesQuiet State.reset := fun g k bound => by
  rw [reset_gate] at bound
  cases bound

theorem reset_agentsCounted : AgentsCounted State.reset := fun a => by
  rw [reset_agent]
  have none : State.reset.liveCount a = 0 := by simp [State.liveCount, reset_entry, Entry.live, Entry.free]
  exact ⟨none.symm, Nat.le_refl 0, Nat.zero_le 8, fun _ i used => absurd (congrArg Entry.state (reset_entry i)) used⟩

theorem reset_entry_notWaiting (i : EntryId) : (State.reset.entry i).state ≠ .waiting := by
  rw [reset_entry]
  decide

theorem reset_entry_notHeld (i : EntryId) : (State.reset.entry i).state ≠ .held := by
  rw [reset_entry]
  decide

theorem reset_queuesOrdered : QueuesOrdered State.reset :=
  ⟨fun i waits => absurd waits (reset_entry_notWaiting i), fun i _ waits => absurd waits (reset_entry_notWaiting i),
    fun i _ => congrArg Entry.arrival (reset_entry i)⟩

theorem reset_claimsDistinct : ClaimsDistinct State.reset := fun i _ live => by
  rw [reset_entry] at live
  cases live

theorem reset_claimsFit : ClaimsFit State.reset := fun i =>
  ⟨fun waits => absurd waits (reset_entry_notWaiting i), fun held => absurd held (reset_entry_notHeld i)⟩

theorem reset_holdersFit : HoldersFit State.reset := fun k => by
  have none : State.reset.heldCount k = 0 := by simp [State.heldCount, reset_entry_notHeld]
  refine ⟨none ▸ Nat.zero_le _, fun held => ?_⟩
  simp [State.writeHeld, reset_entry_notHeld] at held

/-- Settles O53: every slot and entry is FREE, every gate unbound, and the Timebase, the loader and the lanes are at
values in their ranges. -/
theorem propertiesHoldAtReset : Obligations.PropertiesHoldAtReset :=
  ⟨reset_gatesFollow, reset_togglesQuiet, .of_free reset_window, .of_free reset_window, reset_partInRange,
    reset_loadingAgrees, reset_agentsCounted, reset_queuesOrdered, reset_claimsDistinct, reset_claimsFit,
    reset_holdersFit, reset_lanesAgree⟩

end Sys2Proof.Machine

/-! ### The coverage map commands (R28 to R31) -/

namespace Sys2Proof.Machine

/-! #### Words of a map (R27) -/

/-- A word put at its place in a map: bit `i` of the map stands in word `i / 32`, at bit `i % 32`. -/
theorem placedWord_getLsbD (word : Word32) {index i : Nat} (lt : i < 256) :
    (word.setWidth 256 <<< (32 * index)).getLsbD i = (decide (i / 32 = index) && word.getLsbD (i % 32)) := by
  by_cases here : i / 32 = index
  · have place : i - 32 * index = i % 32 := by omega
    have notBelow : ¬ i < 32 * index := by omega
    simp [here, lt, place, notBelow]
  · have outside : i < 32 * index ∨ 32 ≤ i - 32 * index := by omega
    rcases outside with below | above
    · simp [here, lt, below]
    · simp [here, lt, word.getLsbD_of_ge _ above]

theorem setMapWord_getLsbD (m : BitVec 256) (word : Word32) {index i : Nat} (lt : i < 256) :
    (setMapWord m index word).getLsbD i = if i / 32 = index then word.getLsbD (i % 32) else m.getLsbD i := by
  have ones : (BitVec.allOnes 32).getLsbD (i % 32) = true := by
    rw [BitVec.getLsbD_allOnes]
    exact decide_eq_true (Nat.mod_lt i (by decide))
  simp only [setMapWord, BitVec.getLsbD_or, BitVec.getLsbD_and, BitVec.getLsbD_not, placedWord_getLsbD _ lt, ones, lt]
  by_cases here : i / 32 = index <;> simp [here]

theorem mapWord_getLsbD (m : BitVec 256) (index : Nat) {i : Nat} (lt : i < 32) :
    (mapWord m index).getLsbD i = m.getLsbD (32 * index + i) := by
  simp [mapWord, lt]

/-! #### The commands -/

section
variable {s : State} {slot index : Byte} {word : Word32} {k : SlotId}

theorem exec_mapWrite_staged (due : s.commandDue (.mapWrite slot index word) = true) (hk : slotOf slot = some k)
    (fits : index.toNat ≤ 7) (staged : (s.window k).state = .staged) :
    exec (.mapWrite slot index word) s
      = .next ((s.portGranted.putWindow k { s.window k with
          activeMap := setMapWord (s.window k).activeMap index.toNat word }).answered 0x30 none [1, 0]) :=
  takeCommand_done due rfl (by
    rw [mapWriteReply, State.withSlot_some hk]
    simp [Nat.not_lt.mpr fits, staged, WState.code])

theorem exec_mapWrite_inService (due : s.commandDue (.mapWrite slot index word) = true) (hk : slotOf slot = some k)
    (fits : index.toNat ≤ 7) (service : (s.window k).state = .opened ∨ (s.window k).state = .frozen) :
    exec (.mapWrite slot index word) s
      = .next ((s.portGranted.putWindow k { s.window k with
          shadowMap := setMapWord (s.window k).shadowMap index.toNat word, shadowPending := true }).answered 0x30 none
          [(s.window k).state.code, 1]) :=
  takeCommand_done due rfl (by
    rw [mapWriteReply, State.withSlot_some hk]
    rcases service with state | state <;> simp [Nat.not_lt.mpr fits, state])

theorem exec_mapRead_done {selector : Byte} (due : s.commandDue (.mapRead slot index selector) = true)
    (hk : slotOf slot = some k) (fits : index.toNat ≤ 7) (selects : selector.toNat ≤ 1) :
    exec (.mapRead slot index selector) s
      = .next (s.portGranted.answered 0x31 none
          (bytesOf 4 (mapWord (if selector.toNat = 0 then (s.window k).activeMap else (s.window k).shadowMap)
              index.toNat).toNat
            ++ [(s.window k).state.code, yesNo (s.window k).shadowPending])) :=
  takeCommand_done due rfl (by
    have zero : selector = 0#8 ↔ selector.toNat = 0 := BitVec.toNat_inj.symm
    rw [mapReadReply, State.withSlot_some hk]
    simp [Nat.not_lt.mpr fits, Nat.not_lt.mpr selects, zero])

theorem exec_mapCommit_done (due : s.commandDue (.mapCommit slot) = true) (hk : slotOf slot = some k)
    (service : (s.window k).state = .opened ∨ (s.window k).state = .frozen) :
    exec (.mapCommit slot) s
      = .next ((s.portGranted.putWindow k (s.window k).commit).answered 0x32 none
          [(s.window k).state.code, if (s.window k).shadowPending then 0 else 1]) :=
  takeCommand_done due rfl (by
    rw [mapCommitReply, State.withSlot_some hk]
    exact if_pos service)

end

/-- Writing a slot's own record back changes nothing. -/
theorem State.putWindow_self (s : State) (k : SlotId) : s.putWindow k (s.window k) = s := by
  have windows : s.windows.set k (s.window k) = s.windows := by simp [State.window]
  have gates : (tabulate 8 fun g => (s.gate g).report k (s.window k).state (s.window k).state) = s.gates := by
    simpa [Gate.report, State.gate] using tabulate_self s.gates
  simp only [State.putWindow, windows, gates]

/-- Settles O27: each command writes or reads the one word, and a map bit's number says its word and its place there. -/
theorem mapCommandsActOnOneSlot : Obligations.MapCommandsActOnOneSlot := by
  intro s slot index selector word k hk
  refine ⟨fun due fits staged => ⟨_, fun i lt => setMapWord_getLsbD _ word lt, exec_mapWrite_staged due hk fits staged⟩,
    fun due fits service => ⟨_, fun i lt => setMapWord_getLsbD _ word lt, exec_mapWrite_inService due hk fits service⟩,
    fun due fits selects => ⟨_, fun i lt => mapWord_getLsbD _ _ lt, exec_mapRead_done due hk fits selects⟩,
    fun due service => ⟨fun pending => ?_, fun clear => ?_⟩⟩
  · rw [exec_mapCommit_done due hk service, Window.commit, if_pos pending, if_pos pending]
  · have kept : s.portGranted.putWindow k (s.window k) = s.portGranted := s.portGranted.putWindow_self k
    rw [exec_mapCommit_done due hk service, Window.commit, clear]
    simp [kept]

end Sys2Proof.Machine

/-! ### PULSE SET and the samples of the pulse lines (R34 to R37) -/

namespace Sys2Proof.Machine

/-! #### PULSE SET (R37) -/

/-- The setting that a defined code names. -/
def qualificationFor (code : Nat) : Qualification := if code = 0 then .off else if code = 1 then .filter2 else .filter4

theorem qualificationOf_defined {n : Nat} (lt : n < 4) (ne : n ≠ 3) :
    qualificationOf n = some (qualificationFor n) := by
  rcases (by omega : n = 0 ∨ n = 1 ∨ n = 2) with rfl | rfl | rfl <;> rfl

theorem qualificationOf_some {n : Nat} {x : Qualification} (h : qualificationOf n = some x) : n ≠ 3 := by
  rintro rfl
  cases h

theorem qualificationFor_code {n : Nat} (lt : n < 4) (ne : n ≠ 3) : (qualificationFor n).code = n := by
  rcases (by omega : n = 0 ∨ n = 1 ∨ n = 2) with rfl | rfl | rfl <;> rfl

theorem LineState.qualify_eq (l : LineState) (q : Qualification) :
    l.qualify q = { l with setting := q, run := if l.setting = q then l.run else 0 } := by
  unfold LineState.qualify
  split
  · rename_i same
    rw [← same]
  · rfl

/-- The two enables, read back, are bits 0 and 1 of their byte. -/
theorem enables_byte : ∀ enables : Byte,
    BitVec.ofNat 8 ((if enables.getLsbD 0 then 1 else 0) + (if enables.getLsbD 1 then 2 else 0)) = enables &&& 3 := by
  decide

/-- Every code of a qualification byte is defined. -/
def QualificationDefined (q : Byte) : Prop :=
  q.toNat % 4 ≠ 3 ∧ q.toNat / 4 % 4 ≠ 3 ∧ q.toNat / 16 % 4 ≠ 3 ∧ q.toNat / 64 % 4 ≠ 3

/-- The part with the settings of a PULSE SET loaded, where they are defined. -/
def State.pulseLoaded (s : State) (enables q : Byte) : State :=
  { s with
    pairA :=
      s.pairA.configure (enables.getLsbD 0) (qualificationFor (q.toNat % 4)) (qualificationFor (q.toNat / 4 % 4))
    pairB :=
      s.pairB.configure (enables.getLsbD 1) (qualificationFor (q.toNat / 16 % 4))
        (qualificationFor (q.toNat / 64 % 4)) }

section
variable {s : State} {enables q : Byte}

/-- The answer of an accepted PULSE SET carries the byte's own bits. -/
theorem State.pulseLoaded_body (defined : QualificationDefined q) :
    (s.pulseLoaded enables q).pulseBody = [enables &&& 3, q] := by
  obtain ⟨fra, lna, frb, lnb⟩ := defined
  have four (n : Nat) : n % 4 < 4 := Nat.mod_lt n (by decide)
  have digits : q.toNat % 4 + q.toNat / 4 % 4 * 4 + q.toNat / 16 % 4 * 16 + q.toNat / 64 % 4 * 64 = q.toNat := by omega
  have codes : (s.pulseLoaded enables q).pairA.restartLine.setting.code
      + (s.pulseLoaded enables q).pairA.advanceLine.setting.code * 4
      + (s.pulseLoaded enables q).pairB.restartLine.setting.code * 16
      + (s.pulseLoaded enables q).pairB.advanceLine.setting.code * 64 = q.toNat := by
    simp only [State.pulseLoaded, PairState.configure, LineState.qualify_eq, qualificationFor_code (four _) fra,
      qualificationFor_code (four _) lna, qualificationFor_code (four _) frb, qualificationFor_code (four _) lnb,
      digits]
  rw [State.pulseBody, codes, BitVec.ofNat_toNat, BitVec.setWidth_eq]
  exact congrArg (fun b => [b, q]) (enables_byte enables)

theorem exec_pulseSet_done (due : s.commandDue (.pulseSet enables q) = true) (defined : QualificationDefined q) :
    exec (.pulseSet enables q) s = .next ((s.pulseLoaded enables q).answered 0x43 none [enables &&& 3, q]) := by
  obtain ⟨fra, lna, frb, lnb⟩ := id defined
  have four (n : Nat) : n % 4 < 4 := Nat.mod_lt n (by decide)
  have reply : pulseSetReply enables q s = (s.pulseLoaded enables q, .done [enables &&& 3, q]) := by
    rw [← State.pulseLoaded_body defined]
    simp only [pulseSetReply, qualificationCode, qualificationOf_defined (four _) fra,
      qualificationOf_defined (four _) lna, qualificationOf_defined (four _) frb, qualificationOf_defined (four _) lnb]
    rfl
  show takeCommand 0x43 (.pulseSet enables q) (pulseSetReply enables q) s = _
  rw [takeCommand_due due, State.commandTaken_direct rfl, reply, State.complete_done]

theorem exec_pulseSet_badField (due : s.commandDue (.pulseSet enables q) = true)
    (undefined : ¬ QualificationDefined q) :
    exec (.pulseSet enables q) s = .next (s.answered 0x43 (some .badField) []) := by
  have reply : pulseSetReply enables q s = s.refuse .badField := by
    unfold pulseSetReply
    split
    · rename_i fra lna frb lnb
      exact absurd ⟨qualificationOf_some fra, qualificationOf_some lna, qualificationOf_some frb,
        qualificationOf_some lnb⟩ undefined
    · rfl
  show takeCommand 0x43 (.pulseSet enables q) (pulseSetReply enables q) s = _
  rw [takeCommand_due due, State.commandTaken_direct rfl, reply]
  rfl

end

/-! #### The samples (R34 to R36) -/

/-- A sample is a rising edge where it takes a low qualified level to high: at the width of the line's setting. -/
theorem LineState.rises_iff {l : LineState} {high : Bool} :
    l.rises high = true ↔ l.sampled = true ∧ l.high = false ∧ high = true ∧ l.setting.width ≤ l.run + 1 := by
  unfold LineState.rises LineState.sample
  rcases sampled : l.sampled with _ | _
  · simp
  · rcases was : l.high with _ | _
    · rcases high with _ | _
      · simp
      · by_cases wide : l.setting.width ≤ l.run + 1 <;> simp [wide]
    · simp

/-- The events that a sample of a line of the pair hands over (R36). -/
def PairState.edges (p : PairState) (l : LineState) (high : Bool) : Nat :=
  if p.enabled = true ∧ l.sampled = true ∧ l.high = false ∧ high = true ∧ l.setting.width ≤ l.run + 1 then 1 else 0

theorem PairState.edges_eq (p : PairState) (l : LineState) (high : Bool) (n : Nat) :
    (if p.enabled && l.rises high then n + 1 else n) = n + p.edges l high := by
  unfold PairState.edges
  by_cases edge : p.enabled = true ∧ l.rises high = true
  · rw [if_pos (Bool.and_eq_true_iff.mpr edge), if_pos ⟨edge.1, LineState.rises_iff.mp edge.2⟩]
  · rw [if_neg fun h => edge (Bool.and_eq_true_iff.mp h), if_neg fun h => edge ⟨h.1, LineState.rises_iff.mpr h.2⟩]
    rfl

theorem PairState.sampleRestart_eq (p : PairState) (high : Bool) :
    p.sampleRestart high
      = { p with
          restartLine := p.restartLine.sample high, restarts := p.restarts + p.edges p.restartLine high } := by
  rw [← PairState.edges_eq]
  rfl

theorem PairState.sampleAdvance_eq (p : PairState) (high : Bool) :
    p.sampleAdvance high
      = { p with
          advanceLine := p.advanceLine.sample high, advances := p.advances + p.edges p.advanceLine high } := by
  rw [← PairState.edges_eq]
  rfl

theorem exec_pulseLineSample {s : State} (up : s.rstLow = false) (line : PulseLine) (high : Bool) :
    exec (.pulseLineSample line high) s = .next (s.sampleLine line high) :=
  takeEvent_can up rfl

/-- Settles O30: PULSE SET by its codes, and each sample by what it does to its line and hands over. -/
theorem pulseSettingsAndSamples : Obligations.PulseSettingsAndSamples := by
  refine ⟨fun s enables q due => ?_, fun s high up => ?_⟩
  · have top : q.toNat / 64 % 4 = q.toNat / 64 := by omega
    have defined_iff : QualificationDefined q
        ↔ q.toNat % 4 ≠ 3 ∧ q.toNat / 4 % 4 ≠ 3 ∧ q.toNat / 16 % 4 ≠ 3 ∧ q.toNat / 64 ≠ 3 := by
      rw [QualificationDefined, top]
    refine ⟨fun undefined => exec_pulseSet_badField due (mt defined_iff.mp undefined), fun defined => ?_⟩
    rw [exec_pulseSet_done due (defined_iff.mpr defined)]
    simp only [State.pulseLoaded, PairState.configure, LineState.qualify_eq, qualificationFor, top]
  · have restart (p : PairState) := p.sampleRestart_eq high
    have advance (p : PairState) := p.sampleAdvance_eq high
    refine ⟨?_, ?_, ?_, ?_⟩ <;> rw [exec_pulseLineSample up, State.sampleLine]
    · rw [restart]; rfl
    · rw [advance]; rfl
    · rw [restart]; rfl
    · rw [advance]; rfl

end Sys2Proof.Machine

/-! ### RESTART and ADVANCE (R38 to R40) -/

namespace Sys2Proof.Machine

/-! #### One window -/

/-- The window walks by `k` with the pair, in OPEN or FROZEN (R38). -/
def Window.WalksWith (p : PulsePair) (w : Window) (k : Walk) : Prop :=
  w.walk = some k ∧ k.pair = p ∧ (w.state = .opened ∨ w.state = .frozen)

/-- A step of the walk `k` is below its limit and within the address space (R40). -/
def Window.StepFits (w : Window) (k : Walk) : Prop :=
  w.stepCount < k.stepLimit ∧ w.base + 2 ^ k.stride + w.span * 2 ^ w.granule ≤ 2 ^ 36

section
variable {w : Window} {p : PulsePair} {k : Walk}

theorem Window.reachedBy_iff : w.reachedBy p = true ↔ ∃ k, w.WalksWith p k := by
  rcases walk : w.walk with _ | k
  · simp [Window.reachedBy, Window.WalksWith, walk]
  · simp [Window.reachedBy, Window.WalksWith, walk, Window.inService_iff, and_comm]

theorem Window.WalksWith.reached (h : w.WalksWith p k) : w.reachedBy p = true := Window.reachedBy_iff.mpr ⟨k, h⟩

theorem Window.canStep_iff (walk : w.walk = some k) : w.canStep = true ↔ w.StepFits k := by
  rw [Window.canStep, walk]
  exact Bool.and_eq_true_iff.trans (and_congr decide_eq_true_iff decide_eq_true_iff)

theorem Window.restart_of_not_reached (h : ∀ k, ¬ w.WalksWith p k) : w.restart p = w :=
  if_neg fun reached => (Window.reachedBy_iff.mp reached).elim h

theorem Window.advance_of_not_reached (h : ∀ k, ¬ w.WalksWith p k) : w.advance p = w :=
  if_neg fun reached => (Window.reachedBy_iff.mp reached).elim h

/-- RESTART places a reached window at its walk start, and commits a pending shadow map where the walk says so (R39). -/
theorem Window.restart_of_reached (h : w.WalksWith p k) :
    w.restart p
      = if k.commitAtRestart = true ∧ w.shadowPending = true then
          { w with base := k.start, stepCount := 0, overrun := false, activeMap := w.shadowMap, shadowPending := false }
        else { w with base := k.start, stepCount := 0, overrun := false } := by
  obtain ⟨walk, _⟩ := id h
  simp only [Window.restart, h.reached, if_true, walk, Window.commit]
  by_cases commits : k.commitAtRestart = true
  · simp [commits]
  · simp [commits]

theorem Window.advance_of_steps (h : w.WalksWith p k) (fits : w.StepFits k) :
    w.advance p = { w with base := w.base + 2 ^ k.stride, stepCount := w.stepCount + 1 } := by
  obtain ⟨walk, _⟩ := id h
  simp only [Window.advance, h.reached, if_true, walk, (Window.canStep_iff walk).mpr fits]

theorem Window.advance_of_stuck (h : w.WalksWith p k) (stuck : ¬ w.StepFits k) :
    w.advance p = { w with overrun := true } := by
  obtain ⟨walk, _⟩ := id h
  have cannot : w.canStep = false := by rwa [← Bool.not_eq_true, Window.canStep_iff walk]
  simp only [Window.advance, h.reached, if_true, walk, cannot]
  simp

end

/-! #### The part -/

/-- Changing several windows without a change of state moves no gate. -/
theorem State.modifyWindows_eq_of_states {f : Window → Window} (same : ∀ w : Window, (f w).state = w.state)
    (ks : List SlotId) (s : State) : s.modifyWindows ks f = { s with windows := (s.modifyWindows ks f).windows } := by
  refine State.modifyWindows_keeps (P := fun t => t = { s with windows := t.windows }) (fun t k h => ?_) ks s rfl
  have gates : (t.modifyWindow k f).gates = t.gates := by
    show (tabulate 8 fun g => (t.gate g).report k (t.window k).state (f (t.window k)).state) = t.gates
    rw [same]
    simpa [Gate.report, State.gate] using tabulate_self t.gates
  calc t.modifyWindow k f
      _ = { t with windows := (t.modifyWindow k f).windows, gates := (t.modifyWindow k f).gates } := rfl
      _ = { t with windows := (t.modifyWindow k f).windows } := by rw [gates]
      _ = { s with windows := (t.modifyWindow k f).windows } :=
        congrArg (fun u : State => { u with windows := (t.modifyWindow k f).windows }) h

section
variable {s : State} {p : PulsePair}

/-- A change of every window acts on each. -/
theorem State.window_modifyAll (s : State) (f : Window → Window) (j : SlotId) :
    (s.modifyWindows (List.finRange 64) f).window j = f (s.window j) :=
  s.window_modifyWindows_mem _ f j (List.nodup_finRange 64) (List.mem_finRange j)

theorem State.window_restart (j : SlotId) : (s.restart p).window j = (s.window j).restart p := by
  rw [State.restart, State.window_modifyAll, State.putPair_window]

theorem State.window_advance (j : SlotId) : (s.advance p).window j = (s.window j).advance p := by
  simp only [State.advance]
  split
  · rw [State.raise_window, State.window_modifyAll, State.putPair_window]
  · rw [State.window_modifyAll, State.putPair_window]

theorem State.restart_frame :
    s.restart p
      = { s.putPair p { s.pair p with restarts := (s.pair p).restarts - 1 } with
          windows := (s.restart p).windows } := by
  rw [State.restart]
  exact State.modifyWindows_eq_of_states (fun w => (Window.Adjusts.restart (limit := 0) w p).states.1)
    (List.finRange 64) _

theorem State.advance_frame :
    s.advance p
      = { s.putPair p { s.pair p with advances := (s.pair p).advances - 1 } with
          windows := (s.advance p).windows, attn := (s.advance p).attn } := by
  have moved := State.modifyWindows_eq_of_states (f := Window.advance p)
    (fun w => (Window.Adjusts.advance (limit := 0) w p).states.1) (List.finRange 64)
    (s.putPair p { s.pair p with advances := (s.pair p).advances - 1 })
  simp only [State.advance]
  generalize (s.putPair p { s.pair p with advances := (s.pair p).advances - 1 }).modifyWindows (List.finRange 64)
    (Window.advance p) = m at moved ⊢
  have framed (a : Attention) : { m with attn := a } = { s.putPair p { s.pair p with
      advances := (s.pair p).advances - 1 } with windows := m.windows, attn := a } :=
    congrArg (fun v : State => { v with attn := a }) moved
  split
  · exact framed _
  · exact framed _

theorem State.anyOverrun_iff :
    s.anyOverrun p = true ↔ ∃ j k, (s.window j).WalksWith p k ∧ ¬ (s.window j).StepFits k := by
  simp only [State.anyOverrun, List.any_eq_true, List.mem_finRange, true_and, Bool.and_eq_true, Bool.not_eq_true']
  refine exists_congr fun j => ⟨fun ⟨reached, stuck⟩ => ?_, fun ⟨k, walks, stuck⟩ => ⟨walks.reached, ?_⟩⟩
  · obtain ⟨k, walks⟩ := Window.reachedBy_iff.mp reached
    exact ⟨k, walks, by rw [← Window.canStep_iff walks.1, stuck]; exact Bool.false_ne_true⟩
  · rwa [← Bool.not_eq_true, Window.canStep_iff walks.1]

/-- ADVANCE raises WALK_OVERRUN when a window refuses the step, and changes the Attention Unit in no other way (R40). -/
theorem State.advance_attn :
    (s.advance p).attn = if s.anyOverrun p then { s.attn with causes := s.attn.causes ||| 0x10#8 } else s.attn := by
  have kept (x : PairState) : ((s.putPair p x).modifyWindows (List.finRange 64) (Window.advance p)).attn = s.attn := by
    rw [State.modifyWindows_attn]
    cases p <;> rfl
  simp only [State.advance]
  split
  · exact congrArg (fun a : Attention => a.raise .walkOverrun) (kept _)
  · exact kept _

end

/-- Settles O31: each event changes every window by its own rule, and a window that is not reached not at all. -/
theorem pulseEventsMoveWalkingWindows : Obligations.PulseEventsMoveWalkingWindows := by
  intro s p up
  refine ⟨fun waits => ⟨s.restart p, takeEvent_can up (decide_eq_true waits), State.restart_frame, fun j out => ?_,
      fun j k walks => ?_⟩,
    fun waits => ⟨s.advance p, takeEvent_can up (decide_eq_true waits), State.advance_frame, fun j out => ?_,
      fun j k walks fits => ?_, fun j k walks stuck => ⟨?_, ?_⟩, fun all => ?_⟩⟩
  · rw [State.window_restart, Window.restart_of_not_reached out]
  · rw [State.window_restart]
    exact Window.restart_of_reached walks
  · rw [State.window_advance, Window.advance_of_not_reached out]
  · rw [State.window_advance]
    exact Window.advance_of_steps walks fits
  · rw [State.window_advance]
    exact Window.advance_of_stuck walks stuck
  · rw [State.advance_attn, if_pos (State.anyOverrun_iff.mpr ⟨j, k, walks, stuck⟩)]
  · rw [State.advance_attn, if_neg]
    rw [State.anyOverrun_iff]
    rintro ⟨j, k, walks, stuck⟩
    exact stuck (all j k walks)

end Sys2Proof.Machine

/-! ### Lane requests: the checks every block makes, and a refusal (R44, R56, R152) -/

namespace Sys2Proof.Machine

/-! #### The checks of the lane (R44) -/

section
variable {s : State} {l : LaneId} {r : Request}

/-- The request is of an enabled agent, on that agent's lane, with the part READY. -/
def State.Knows (s : State) (l : LaneId) (r : Request) : Prop :=
  s.service = .ready ∧ (s.agent r.agent).enabled = true ∧ (s.agent r.agent).lane = l

theorem State.laneCheck_loading (h : s.service = .loading) : s.laneCheck l r = some .notReady := by
  simp [State.laneCheck, h]

theorem State.laneCheck_agentOff (ready : s.service = .ready) (h : (s.agent r.agent).enabled = false) :
    s.laneCheck l r = some .agentOff := by
  simp [State.laneCheck, ready, h]

theorem State.laneCheck_wrongLane (ready : s.service = .ready) (on : (s.agent r.agent).enabled = true)
    (h : (s.agent r.agent).lane ≠ l) : s.laneCheck l r = some .wrongLane := by
  simp [State.laneCheck, ready, on, h]

theorem State.laneCheck_known (h : s.Knows l r) : s.laneCheck l r = none := by
  obtain ⟨ready, on, lane⟩ := h
  simp [State.laneCheck, ready, on, lane]

end

/-! #### A refusal, reported and answered (R56, R152) -/

theorem Request.namesSlot_iff {r : Request} : r.namesSlot = true ↔ 3 ≤ r.kind.toNat ∧ r.kind.toNat ≤ 6 := by
  simp [Request.namesSlot]

theorem State.capture_eq_reported (s : State) (l : LaneId) (r : Request) (why : Reason) :
    s.capture l r why = s.reported l r why := by
  simp only [State.capture, State.reported, Request.namesSlot_iff]
  split <;> rfl

theorem State.refuseRequest_laneGranted (s : State) (l : LaneId) (r : Request) (why : Reason) (slot : Option Byte) :
    (s.laneGranted l).refuseRequest l r why slot = s.laneRefused l r why slot := by
  rw [State.refuseRequest, State.capture_eq_reported]
  rfl

@[simp] theorem State.laneGranted_owner (s : State) (l : LaneId) (k : SlotId) : (s.laneGranted l).owner k = s.owner k :=
  State.owner_congr (s := s) (t := s.laneGranted l) (fun _ => rfl) k

/-! #### Rights and claims that an access needs (R5, R51) -/

/-- The access that a lookup asks for. -/
abbrev accessKind (write : Bool) : ClaimKind := if write then .write else .read

/-- The right allows the access (R5). -/
def Right.Permits (x : Right) (write : Bool) : Prop := x = .readWrite ∨ (write = false ∧ x = .read)

theorem Right.allows_iff {x : Right} {write : Bool} : x.allows (accessKind write) = true ↔ x.Permits write := by
  cases write <;> simp [accessKind, Right.allows, Right.Permits, or_comm]

theorem ClaimKind.satisfies_iff {held : ClaimKind} {write : Bool} :
    held.satisfies (accessKind write) = true ↔ held = .write ∨ write = false := by
  cases write <;> simp [ClaimKind.satisfies]

theorem State.holds_iff {s : State} {a : AgentId} {k : SlotId} {ok : ClaimKind → Bool} :
    s.holds a k ok = true ↔ ∃ i : EntryId, (s.entry i).state = .held ∧ (s.entry i).agent = a ∧ (s.entry i).slot = k
      ∧ ok (s.entry i).kind = true := by
  simp [State.holds, and_assoc]

end Sys2Proof.Machine

/-! ### Lookups (R43 to R56) -/

namespace Sys2Proof.Machine

/-! #### The words of the checks -/

/-- The length is one a lookup may have, and its range lies in the address space (R45). -/
def Request.RangeFits (r : Request) : Prop :=
  1 ≤ r.length.toNat ∧ r.length.toNat ≤ 4096 ∧ r.address.toNat + r.length.toNat ≤ 2 ^ 36

/-- The window is one that selection considers, and its span contains the address (R46). -/
def Window.Covers (w : Window) (a : Nat) : Prop :=
  (w.state = .opened ∨ w.state = .frozen ∨ w.state = .draining) ∧ w.base ≤ a ∧ a < w.base + w.span * 2 ^ w.granule

/-- The range ends within the window's span (R48). -/
def Request.EndsInside (r : Request) (w : Window) : Prop :=
  r.address.toNat + r.length.toNat ≤ w.base + w.span * 2 ^ w.granule

/-- Every granule that the range touches is in service (R49). -/
def Request.Mapped (r : Request) (w : Window) : Prop :=
  ∀ i, w.granuleOf r.address.toNat ≤ i → i ≤ w.granuleOf (r.address.toNat + r.length.toNat - 1) →
    w.activeMap.getLsbD i = true

/-- The request's agent holds an entry for the slot that satisfies the access (R51). -/
def State.HoldsFor (s : State) (r : Request) (write : Bool) (k : SlotId) : Prop :=
  ∃ i : EntryId, (s.entry i).state = .held ∧ (s.entry i).agent = r.agent ∧ (s.entry i).slot = k
    ∧ ((s.entry i).kind = .write ∨ write = false)

theorem State.holds_access_iff {s : State} {r : Request} {write : Bool} {k : SlotId} :
    s.holds r.agent k (fun kind => kind.satisfies (accessKind write)) = true ↔ s.HoldsFor r write k := by
  simp only [State.holds_iff, ClaimKind.satisfies_iff, State.HoldsFor]

/-- Counting the granules up from the first to the last passes each granule between them. -/
theorem Window.mapped_iff {w : Window} {r : Request} (long : 1 ≤ r.length.toNat) :
    w.mapped r.address.toNat (r.address.toNat + r.length.toNat - 1) = true ↔ r.Mapped w := by
  have ordered : w.granuleOf r.address.toNat ≤ w.granuleOf (r.address.toNat + r.length.toNat - 1) :=
    Nat.div_le_div_right (by omega)
  simp only [Window.mapped, List.all_eq_true, List.mem_range]
  refine ⟨fun all i low high => ?_, fun mapped j lt => mapped _ (Nat.le_add_right _ _) (by omega)⟩
  have counted := all (i - w.granuleOf r.address.toNat) (by omega)
  rwa [Nat.add_sub_cancel' low] at counted

/-! #### Selection (R46) -/

theorem Window.covers_iff {w : Window} {a : Nat} : (w.selectable && w.contains a) = true ↔ w.Covers a := by
  simp only [Window.selectable, Window.contains, Bool.and_eq_true, Bool.or_eq_true, beq_iff_eq, decide_eq_true_eq,
    or_assoc]
  rfl

theorem State.select_eq_none {s : State} {a : Nat} (h : ∀ k, ¬ (s.window k).Covers a) : s.select a = none := by
  simp only [State.select, List.find?_eq_none, Window.covers_iff]
  exact fun k _ => h k

/-- The first slot found from 0 upward is the lowest that covers the address. -/
theorem State.select_eq_some {s : State} {a : Nat} {k : SlotId} (covers : (s.window k).Covers a)
    (lowest : ∀ j, j < k → ¬ (s.window j).Covers a) : s.select a = some k := by
  rw [State.select, ← Fin.find?_eq_find?_finRange, Fin.find?_eq_some_iff]
  exact ⟨Window.covers_iff.mpr covers, fun j lt => by simpa using mt Window.covers_iff.mp (lowest j lt)⟩

/-! #### Checks 6 to 10, against the selected window (R47 to R51) -/

section
variable {s : State} {r : Request} {write : Bool} {k : SlotId} {access : ClaimKind}

theorem State.accessCheck_frozen (h : (s.window k).state = .frozen) : s.accessCheck r access k = some .frozen := by
  simp [State.accessCheck, h]

theorem State.accessCheck_retiring (h : (s.window k).state = .draining) :
    s.accessCheck r access k = some .retiring := by
  simp [State.accessCheck, h]

variable (opened : (s.window k).state = .opened)
include opened

theorem State.accessCheck_split (h : ¬ r.EndsInside (s.window k)) : s.accessCheck r access k = some .split := by
  have past : (s.window k).base + (s.window k).spanBytes ≤ r.address.toNat + r.length.toNat - 1 := by
    simp only [Request.EndsInside, Window.spanBytes] at h ⊢
    omega
  simp [State.accessCheck, opened, past]

variable (fits : r.RangeFits) (inside : r.EndsInside (s.window k))
include fits inside

/-- Past the end of the span, the checks that are left are those of the map, the rights and the claim (R49 to R51). -/
theorem State.accessCheck_inside :
    s.accessCheck r access k
      = if (s.window k).mapped r.address.toNat (r.address.toNat + r.length.toNat - 1) = false then some .unmapped
        else if (s.window k).rights[(s.agent r.agent).cls].allows access = false then some .noRight
        else if (s.window k).access = .claimed ∧ s.holds r.agent k (fun kind => kind.satisfies access) = false then
          some .notHeld
        else none := by
  have within : ¬ (s.window k).base + (s.window k).spanBytes ≤ r.address.toNat + r.length.toNat - 1 := by
    have long := fits.1
    simp only [Request.EndsInside, Window.spanBytes] at inside ⊢
    omega
  simp only [State.accessCheck, opened, within, reduceCtorEq, if_false]

theorem State.accessCheck_unmapped (h : ¬ r.Mapped (s.window k)) : s.accessCheck r access k = some .unmapped := by
  rw [← Window.mapped_iff fits.1, Bool.not_eq_true] at h
  rw [State.accessCheck_inside opened fits inside, if_pos h]

variable (mapped : r.Mapped (s.window k))
include mapped

theorem State.accessCheck_noRight (h : ¬ (s.window k).rights[(s.agent r.agent).cls].Permits write) :
    s.accessCheck r (accessKind write) k = some .noRight := by
  rw [← Window.mapped_iff fits.1] at mapped
  rw [← Right.allows_iff, Bool.not_eq_true] at h
  rw [State.accessCheck_inside opened fits inside, if_neg ((Bool.not_eq_false _).mpr mapped), if_pos h]

variable (permits : (s.window k).rights[(s.agent r.agent).cls].Permits write)
include permits

/-- Past the rights, the check that is left is that of a CLAIMED window's entry (R51). -/
theorem State.accessCheck_permitted :
    s.accessCheck r (accessKind write) k
      = if (s.window k).access = .claimed
            ∧ s.holds r.agent k (fun kind => kind.satisfies (accessKind write)) = false then some .notHeld
        else none := by
  rw [← Window.mapped_iff fits.1] at mapped
  rw [← Right.allows_iff] at permits
  rw [State.accessCheck_inside opened fits inside, if_neg ((Bool.not_eq_false _).mpr mapped),
    if_neg ((Bool.not_eq_false _).mpr permits)]

theorem State.accessCheck_notHeld (claimed : (s.window k).access = .claimed) (h : ¬ s.HoldsFor r write k) :
    s.accessCheck r (accessKind write) k = some .notHeld := by
  rw [← State.holds_access_iff, Bool.not_eq_true] at h
  rw [State.accessCheck_permitted opened fits inside mapped permits, if_pos ⟨claimed, h⟩]

theorem State.accessCheck_passes (held : (s.window k).access = .claimed → s.HoldsFor r write k) :
    s.accessCheck r (accessKind write) k = none := by
  simp only [← State.holds_access_iff] at held
  rw [State.accessCheck_permitted opened fits inside mapped permits, if_neg]
  exact fun ⟨claimed, unheld⟩ => Bool.false_ne_true (unheld.symm.trans (held claimed))

end

/-! #### The ten checks in their order (R43) -/

section
variable {s : State} {l : LaneId} {r : Request} {access : ClaimKind}

theorem State.lookupVerdict_laneCheck {why : Reason} (h : s.laneCheck l r = some why) :
    s.lookupVerdict l r access = .refused why none := by
  simp [State.lookupVerdict, h]

variable (known : s.Knows l r)
include known

theorem State.lookupVerdict_length (h : ¬ r.RangeFits) : s.lookupVerdict l r access = .refused .length none := by
  have bad : r.length.toNat = 0 ∨ Config.maxLookupLength < r.length.toNat
      ∨ Config.addressSpace < r.address.toNat + r.length.toNat := by
    simp only [Request.RangeFits, Config.maxLookupLength, Config.addressSpace] at h ⊢
    omega
  rw [State.lookupVerdict, State.laneCheck_known known]
  exact if_pos bad

variable (fits : r.RangeFits)
include fits

/-- Past the length, the verdict is that on the selected window. -/
theorem State.lookupVerdict_fits :
    s.lookupVerdict l r access
      = (s.select r.address.toNat).elim (.refused .noWindow none) fun k =>
          (s.accessCheck r access k).elim (.granted k) (.refused · (some k)) := by
  have good : ¬ (r.length.toNat = 0 ∨ Config.maxLookupLength < r.length.toNat
      ∨ Config.addressSpace < r.address.toNat + r.length.toNat) := by
    simp only [Request.RangeFits, Config.maxLookupLength, Config.addressSpace] at fits ⊢
    omega
  rw [State.lookupVerdict, State.laneCheck_known known]
  simp only [good, if_false]
  cases s.select r.address.toNat with
  | none => rfl
  | some k =>
    simp only [Option.elim_some]
    cases s.accessCheck r access k <;> rfl

theorem State.lookupVerdict_noWindow (h : ∀ k, ¬ (s.window k).Covers r.address.toNat) :
    s.lookupVerdict l r access = .refused .noWindow none := by
  rw [State.lookupVerdict_fits known fits, State.select_eq_none h]
  rfl

variable {k : SlotId} (covers : (s.window k).Covers r.address.toNat)
  (lowest : ∀ j, j < k → ¬ (s.window j).Covers r.address.toNat)
include covers lowest

theorem State.lookupVerdict_accessCheck {why : Reason} (h : s.accessCheck r access k = some why) :
    s.lookupVerdict l r access = .refused why (some k) := by
  rw [State.lookupVerdict_fits known fits, State.select_eq_some covers lowest, Option.elim_some, h]
  rfl

theorem State.lookupVerdict_passes (h : s.accessCheck r access k = none) : s.lookupVerdict l r access = .granted k := by
  rw [State.lookupVerdict_fits known fits, State.select_eq_some covers lowest, Option.elim_some, h]
  rfl

end

/-- A lookup that passes every check is granted on the slot (R43, R52). -/
theorem State.LookupPasses.verdict {s : State} {l : LaneId} {r : Request} {write : Bool} {k : SlotId}
    (h : s.LookupPasses l r write k) : s.lookupVerdict l r (accessKind write) = .granted k := by
  obtain ⟨opened, ready, on, lane, long, short, above, inside, space, lower, mapped, permits, held⟩ := h
  have covers : (s.window k).Covers r.address.toNat := ⟨.inl opened, above, by omega⟩
  have lowest (j : SlotId) (lt : j < k) : ¬ (s.window j).Covers r.address.toNat := by
    rintro ⟨selectable, low, high⟩
    rcases lower j lt with free | staged | armed | below | past
    · simp [free] at selectable
    · simp [staged] at selectable
    · simp [armed] at selectable
    · omega
    · omega
  exact State.lookupVerdict_passes ⟨ready, on, lane⟩ ⟨long, short, space⟩ covers lowest
    (State.accessCheck_passes opened ⟨long, short, space⟩ inside mapped permits held)

/-! #### The taking of a lookup (R52, R56) -/

section
variable {s : State} {l : LaneId} {r : Request} {write : Bool}

/-- The row of a lookup of this access. -/
abbrev lookupRow (write : Bool) (l : LaneId) (r : Request) : Instr :=
  if write then .lookupWrite l r else .lookupRead l r

variable (due : s.requestDue l r = true) (kind : r.kind = if write then 2 else 1)
include due kind

theorem exec_lookup : exec (lookupRow write l r) s = .next ((s.laneGranted l).lookup l r (accessKind write)) := by
  have wf : (lookupRow write l r).wf = true := by cases write <;> exact beq_iff_eq.mpr kind
  cases write with
  | true => exact takeRequest_due (body := fun t => t.lookup l r .write) wf due
  | false => exact takeRequest_due (body := fun t => t.lookup l r .read) wf due

theorem exec_lookup_refused {why : Reason} {slot : Option SlotId}
    (h : s.lookupVerdict l r (accessKind write) = .refused why slot) :
    exec (lookupRow write l r) s = .next (s.laneRefused l r why (slot.map slotByte)) := by
  have verdict : (s.laneGranted l).lookupVerdict l r (accessKind write) = .refused why slot := h
  rw [exec_lookup due kind, State.lookup, verdict, ← State.refuseRequest_laneGranted]

theorem exec_lookup_granted {k : SlotId} (h : s.lookupVerdict l r (accessKind write) = .granted k) :
    exec (lookupRow write l r) s
      = .next (((s.laneGranted l).grantLookup k).laneAnswered l
          { kind := r.kind, tag := r.tag, outcome := .granted, reason := none, slot := some (BitVec.ofNat 8 k.val),
            entry := none, laneMask := if write then some (s.window k).laneMask else none }) := by
  have verdict : (s.laneGranted l).lookupVerdict l r (accessKind write) = .granted k := h
  rw [exec_lookup due kind, State.lookup, verdict]
  cases write <;> rfl

end

/-- Settles O37: the first check that fails is the verdict, and a refusal only reports and answers. -/
theorem lookupChecksInOrder : Obligations.LookupChecksInOrder := by
  intro s l r write due kind c refused a Covers Known Fits
  refine ⟨fun loading => ?_, fun ready off => ?_, fun ready on lane => ?_, fun known short => ?_,
    fun known fits uncovered => ?_, fun k w known fits covers lowest here => ?_⟩
  · exact exec_lookup_refused due kind (State.lookupVerdict_laneCheck (State.laneCheck_loading loading))
  · exact exec_lookup_refused due kind (State.lookupVerdict_laneCheck (State.laneCheck_agentOff ready off))
  · exact exec_lookup_refused due kind (State.lookupVerdict_laneCheck (State.laneCheck_wrongLane ready on lane))
  · exact exec_lookup_refused due kind (State.lookupVerdict_length known short)
  · exact exec_lookup_refused due kind (State.lookupVerdict_noWindow known fits uncovered)
  · subst here
    have selected {why : Reason} (h : s.accessCheck r (accessKind write) k = some why) :
        refused why (some (BitVec.ofNat 8 k.val)) :=
      exec_lookup_refused due kind (State.lookupVerdict_accessCheck known fits covers lowest h)
    exact ⟨fun frozen => selected (State.accessCheck_frozen frozen),
      fun draining => selected (State.accessCheck_retiring draining),
      fun opened past => selected (State.accessCheck_split opened past),
      fun opened inside unmapped => selected (State.accessCheck_unmapped opened fits inside unmapped),
      fun opened inside mapped denied => selected (State.accessCheck_noRight opened fits inside mapped denied),
      fun opened inside mapped permits claimed unheld =>
        selected (State.accessCheck_notHeld opened fits inside mapped permits claimed unheld)⟩

/-! #### The effects of a grant (R53 to R55) -/

theorem Window.used_eq (w : Window) : w.used = { w with idleCount := w.idleLimit.getD w.idleCount } := by
  cases w
  simp only [Window.used]
  split <;> rfl

/-- The lease count that slot `h` owns counts one use. -/
def State.countUse (s : State) (h : SlotId) : State :=
  s.modifyWindow h fun w => { w with leaseCount := w.leaseCount - 1 }

section
variable {s : State} {k : SlotId}

theorem State.grantLookup_uncounted (mode : ((s.modifyWindow k Window.used).window (s.owner k)).leaseMode ≠ .uses) :
    s.grantLookup k = s.modifyWindow k Window.used :=
  if_neg mode

variable (mode : ((s.modifyWindow k Window.used).window (s.owner k)).leaseMode = .uses)
include mode

/-- A governing USES lease counts the use, and expires when that was the last (R54, R55). -/
theorem State.grantLookup_counted :
    s.grantLookup k
      = if ((s.modifyWindow k Window.used).window (s.owner k)).leaseCount - 1 = 0 then
          ((s.modifyWindow k Window.used).countUse (s.owner k)).expireLease (s.owner k)
        else (s.modifyWindow k Window.used).countUse (s.owner k) := by
  simp only [State.grantLookup, if_pos mode, State.window_modifyWindow_self, State.countUse]

end

/-- Settles O38: the verdict is a grant, and the governing lease decides which of its effects follow. -/
theorem lookupIsGranted : Obligations.LookupIsGranted := by
  intro s l r write k w due kind here passes c answer used owner counted
  subst here
  have reloaded : (s.laneGranted l).modifyWindow k Window.used = used :=
    congrArg ((s.laneGranted l).putWindow k) (s.window k).used_eq
  have granted {t : State} (effects : (s.laneGranted l).grantLookup k = t) :
      exec c s = .next (t.laneAnswered l answer) :=
    effects ▸ exec_lookup_granted due kind passes.verdict
  have owned := s.laneGranted_owner l k
  have uses (mode : owner.leaseMode = .uses) :
      (s.laneGranted l).grantLookup k
        = if owner.leaseCount - 1 = 0 then counted.expireLease (s.owner k) else counted := by
    have := State.grantLookup_counted (s := s.laneGranted l) (k := k) (by rwa [reloaded, owned])
    rwa [reloaded, owned] at this
  refine ⟨fun mode => granted ?_, fun mode left => granted ?_, fun mode last => granted ?_⟩
  · rw [State.grantLookup_uncounted (by rwa [reloaded, owned]), reloaded]
  · rw [uses mode, if_neg (by omega)]
  · rw [uses mode, if_pos (by omega)]

end Sys2Proof.Machine

/-! ### The Timebase (R59 to R62) -/

namespace Sys2Proof.Machine

/-! #### One REFCLK period -/

theorem Timebase.refclk_stopped {t : Timebase} (stopped : t.running = false) : t.refclk = t :=
  if_neg (by simp [stopped])

/-- Settles O3: a period of a Timebase that runs advances its sub-tick count or ends its interval. -/
theorem idleStepIsOneRefclkPeriod : Obligations.IdleStepIsOneRefclkPeriod := by
  intro s empty
  have idle : step s = .next s.idleStep := by rw [step, empty]
  rw [idle, State.idleStep]
  refine ⟨fun still => ?_, fun up running below => ?_, fun up running at_divider => ?_⟩
  · rcases still with low | stopped
    · rw [if_pos low]
    · rw [Timebase.refclk_stopped stopped]
      exact congrArg _ (ite_self s)
  · rw [if_neg (by simp [up]), Timebase.refclk, if_pos running, if_pos below]
  · rw [if_neg (by simp [up]), Timebase.refclk, if_pos running, if_neg (by omega), Timebase.endInterval]

/-! #### TIMEBASE (R61) -/

/-- The Timebase that an accepted TIMEBASE leaves, field by field. -/
theorem Timebase.command_eq (t : Timebase) (divider : BitVec 16) (flags run : Byte) :
    t.command divider flags run
      = { t with
          divider := if flags.getLsbD 0 then dividerOf divider else t.divider
          running := if run = 1 then true else if run = 2 then false else t.running
          subTick := if flags.getLsbD 0 = true ∨ run = 2 ∨ (run = 1 ∧ t.running = false) then 0 else t.subTick
          restarted :=
            if run = 2 ∨ (run = 1 ∧ t.running = false) then false
            else if flags.getLsbD 0 then t.running else t.restarted
          stamp := if flags.getLsbD 1 then 0 else t.stamp } := by
  unfold Timebase.command
  generalize flags.getLsbD 0 = load
  generalize flags.getLsbD 1 = zero
  by_cases starts : run = 1
  · obtain ⟨_, running, _⟩ := t
    cases running <;> cases load <;> cases zero <;> simp [Timebase.load, Timebase.start, starts]
  · by_cases stops : run = 2
    · cases load <;> cases zero <;> simp [Timebase.load, Timebase.stop, stops]
    · cases load <;> cases zero <;> simp_all [Timebase.load]

/-- A command that goes direct acts on the state as it stands. -/
theorem takeCommand_direct {code : Byte} {c : Instr} {body : State → State × Reply} {s t : State} {r : Reply}
    (due : s.commandDue c = true) (direct : c.direct = true) (h : body s = (t, r)) :
    takeCommand code c body s = .next (t.complete code r) := by
  rw [takeCommand_due due, State.commandTaken_direct direct, h]

theorem exec_timebase_badField {s : State} {divider : BitVec 16} {flags run : Byte}
    (due : s.commandDue (.timebase divider flags run) = true) (undefined : 2 < run.toNat) :
    exec (.timebase divider flags run) s = .next (s.answered 0x41 (some .badField) []) :=
  takeCommand_direct (body := timebaseReply divider flags run) due rfl (if_pos undefined)

theorem exec_timebase_done {s : State} {divider : BitVec 16} {flags run : Byte}
    (due : s.commandDue (.timebase divider flags run) = true) (defined : run.toNat ≤ 2) :
    exec (.timebase divider flags run) s
      = .next (({ s with timebase := s.timebase.command divider flags run } : State).answered 0x41 none
          (s.timebase.command divider flags run).body) :=
  takeCommand_direct (body := timebaseReply divider flags run) due rfl (if_neg (Nat.not_lt.mpr defined))

/-! #### TICK (R60, R62) -/

/-- A RUNNING Timebase takes the end of an interval. -/
theorem exec_tick {s : State} (up : s.rstLow = false) (running : s.timebase.running = true) :
    exec .tick s = .next { s with timebase := s.timebase.intervalEnd } :=
  takeEvent_can up running

/-- Settles O29: the command field by field, and the end of an interval that is pending or new. -/
theorem timebaseCommandAndTick : Obligations.TimebaseCommandAndTick := by
  refine ⟨fun s divider flags run due => ⟨exec_timebase_badField due, fun defined => ?_⟩,
    fun s up running => ⟨fun fresh => ?_, fun pending => ?_⟩⟩
  · rw [exec_timebase_done due defined, Timebase.command_eq]
    rfl
  · rw [exec_tick up running, Timebase.intervalEnd, fresh]
    simp [Timebase.endInterval, fresh]
  · rw [exec_tick up running, Timebase.intervalEnd, pending]
    rfl

end Sys2Proof.Machine

/-! ### RENEW (R75 to R77) -/

namespace Sys2Proof.Machine

/-! #### The checks of a lane RENEW in their order (R77) -/

section
variable {s : State} {l : LaneId} {r : Request} {k : SlotId}

theorem State.renewCheck_laneCheck {why : Reason} (h : s.laneCheck l r = some why) :
    s.renewCheck l r = .error (why, false) := by
  simp [State.renewCheck, h]

variable (known : s.Knows l r)
include known

theorem State.renewCheck_noSlot (h : slotOf r.slot = none) : s.renewCheck l r = .error (.noWindow, false) := by
  simp [State.renewCheck, State.laneCheck_known known, h]

variable (hk : slotOf r.slot = some k)
include hk

theorem State.renewCheck_noWindow
    (h : (s.window k).state = .free ∨ (s.window k).state = .staged ∨ (s.window k).state = .armed) :
    s.renewCheck l r = .error (.noWindow, false) := by
  rcases h with h | h | h <;> simp [State.renewCheck, State.laneCheck_known known, hk, h]

theorem State.renewCheck_retiring (h : (s.window k).state = .draining) :
    s.renewCheck l r = .error (.retiring, true) := by
  simp [State.renewCheck, State.laneCheck_known known, hk, h]

/-- The last checks are those of a window in service. -/
theorem State.renewCheck_inService (service : (s.window k).state = .opened ∨ (s.window k).state = .frozen) :
    s.renewCheck l r
      = if (s.window k).role = .member then .error (.group, true)
        else if (s.window k).leaseMode = .none then .error (.noLease, true)
        else if (s.window k).agentRenew = false ∨ s.holds r.agent k (fun kind => kind == .write) = false then
          .error (.noRight, true)
        else .ok k := by
  rcases service with h | h <;> simp [State.renewCheck, State.laneCheck_known known, hk, h, Window.isMember]

end

/-! #### The taking of a lane RENEW (R56, R75) -/

section
variable {s : State} {l : LaneId} {r : Request} (due : s.requestDue l r = true) (kind : r.kind = 6)
include due kind

theorem exec_renewRequest : exec (.renewRequest l r) s = .next ((s.laneGranted l).renewOnLane l r) :=
  takeRequest_due (body := fun t => t.renewOnLane l r) (beq_iff_eq.mpr kind) due

theorem exec_renewRequest_refused {why : Reason} {carries : Bool} (h : s.renewCheck l r = .error (why, carries)) :
    exec (.renewRequest l r) s = .next (s.laneRefused l r why (if carries then some r.slot else none)) := by
  have check : (s.laneGranted l).renewCheck l r = .error (why, carries) := h
  rw [exec_renewRequest due kind, State.renewOnLane, check, ← State.refuseRequest_laneGranted]

theorem exec_renewRequest_done {k : SlotId} (h : s.renewCheck l r = .ok k) :
    exec (.renewRequest l r) s
      = .next (((s.laneGranted l).putWindow k ((s.window k).renew r.renewCount)).laneAnswered l
          { kind := r.kind, tag := r.tag, outcome := .renewed, reason := none, slot := some r.slot, entry := none,
            laneMask := none }) := by
  have check : (s.laneGranted l).renewCheck l r = .ok k := h
  rw [exec_renewRequest due kind, State.renewOnLane, check]
  rfl

end

/-- The count that a lane RENEW carries is its address modulo 2^16 (12.1). -/
theorem Request.renewCount_toNat (r : Request) : r.renewCount.toNat = r.address.toNat % 2 ^ 16 := by
  simp [Request.renewCount, BitVec.extractLsb'_toNat]

theorem Window.renew_renewCount (w : Window) (r : Request) :
    w.renew r.renewCount
      = { w with leaseCount := if r.address.toNat % 2 ^ 16 = 0 then w.leaseReload else r.address.toNat % 2 ^ 16 } := by
  rw [Window.renew, ← r.renewCount_toNat]
  simp only [← BitVec.toNat_inj]
  rfl

/-! #### RENEW on the port (R76) -/

theorem exec_renew_done {s : State} {slot : Byte} {count : BitVec 16} {k : SlotId}
    (due : s.commandDue (.renew slot count) = true) (hk : slotOf slot = some k) (role : (s.window k).role ≠ .member)
    (service : (s.window k).state = .opened ∨ (s.window k).state = .frozen) (mode : (s.window k).leaseMode ≠ .none) :
    exec (.renew slot count) s
      = .next ((s.portGranted.putWindow k ((s.window k).renew count)).answered 0x27 none
          ([slot, (s.window k).state.code] ++ bytesOf 2 ((s.window k).renew count).leaseCount)) := by
  refine takeCommand_done due rfl ?_
  have member := Window.isMember_of_role role
  rw [renewReply, State.withSlot_some hk]
  simp only [State.portGranted_window, member, Window.inService_iff.mpr service, mode, State.slotState,
    State.window_modifyWindow_self, slotOf_byte hk]
  rfl

/-- Settles O42: the first check that fails is the reason, and an accepted RENEW loads the count. -/
theorem renewLoadsTheLeaseCount : Obligations.RenewLoadsTheLeaseCount := by
  refine ⟨?_, fun s slot count k due hk role service mode => exec_renew_done due hk role service mode⟩
  intro s l r due kind refused known
  have refuse {why : Reason} {carries : Bool} (h : s.renewCheck l r = .error (why, carries)) :
      refused why (if carries then some r.slot else none) := exec_renewRequest_refused due kind h
  refine ⟨fun loading => refuse (State.renewCheck_laneCheck (State.laneCheck_loading loading)),
    fun ready off => refuse (State.renewCheck_laneCheck (State.laneCheck_agentOff ready off)),
    fun ready on lane => refuse (State.renewCheck_laneCheck (State.laneCheck_wrongLane ready on lane)),
    fun known above => refuse (State.renewCheck_noSlot known (slotOf_eq_none.mpr above)),
    ?_⟩
  intro k known hk w holds service
  have holding : s.holds r.agent k (fun kind => kind == .write) = true ↔ holds := by
    simp only [State.holds_iff, beq_iff_eq]
    rfl
  refine ⟨fun out => refuse (State.renewCheck_noWindow known hk out),
    fun draining => refuse (State.renewCheck_retiring known hk draining), fun inService member => ?_,
    fun inService alone noMode => ?_, fun inService alone mode denied => ?_,
    fun inService alone mode allowed held => ?_⟩
  all_goals have check := State.renewCheck_inService known hk inService
  · exact refuse (check.trans (if_pos member))
  · exact refuse (check.trans ((if_neg alone).trans (if_pos noMode)))
  all_goals rw [if_neg alone, if_neg mode] at check
  · refine refuse (check.trans (if_pos ?_))
    rwa [← Bool.not_eq_true (s.holds _ _ _), holding]
  · rw [exec_renewRequest_done due kind (check.trans (if_neg ?_)), Window.renew_renewCount]
    rw [← Bool.not_eq_true (s.holds _ _ _), holding]
    rintro (off | unheld)
    · exact absurd allowed (by rw [off]; exact Bool.false_ne_true)
    · exact unheld held

end Sys2Proof.Machine

/-! ### Entries that end, and units that drain or become FREE (R97, R107, R108, R122, R126) -/

namespace Sys2Proof.Machine

/-! #### One entry ends -/

/-- An entry that ends stays where it is, and those behind it in its queue move up by one (R97). -/
theorem State.entry_endEntry (s : State) (i j : EntryId) (o : EOutcome) :
    (s.endEntry i o).entry j
      = if i = j then (s.entry i).gone o
        else if (s.entry i).state = .waiting ∧ (s.entry j).state = .waiting ∧ (s.entry j).slot = (s.entry i).slot
            ∧ (s.entry i).arrival < (s.entry j).arrival then
          { s.entry j with arrival := (s.entry j).arrival - 1 }
        else s.entry j := by
  rw [State.endEntry, State.decInUse_entry, State.entry_putEntry]
  by_cases e : i = j
  · simp [e, Entry.gone]
  · rw [if_neg e, if_neg e, State.vacate]
    by_cases waits : (s.entry i).state = .waiting
    · simp [waits, State.closeQueue]
    · simp [waits]

/-- The agent of an entry that ends counts one claim in use less. -/
theorem State.agent_endEntry (s : State) (i : EntryId) (o : EOutcome) (a : AgentId) :
    (s.endEntry i o).agent a
      = if (s.entry i).agent = a then { s.agent a with inUse := (s.agent a).inUse - 1 } else s.agent a := by
  have agents (b : AgentId) : (s.vacate i).agent b = s.agent b := by
    unfold State.vacate
    split <;> rfl
  rw [State.endEntry, State.decInUse, State.agent_putAgent]
  simp only [State.putEntry_agent, agents]
  split <;> simp_all

/-! #### Every entry that passes a test ends -/

/-- The test picks WAITING and HELD entries, and does not look at the arrival number. -/
structure Entry.Picks (p : Entry → Bool) : Prop where
  live : ∀ e, p e = true → e.live = true
  arrival : ∀ (e : Entry) (n : Nat), p { e with arrival := n } = p e

theorem Entry.Picks.gone {p : Entry → Bool} (picks : Entry.Picks p) (e : Entry) (o : EOutcome) :
    p (e.gone o) = false := by
  by_contra h
  have := picks.live _ (by simpa using h)
  simp [Entry.gone, Entry.live] at this

/-- The entries of a list that pass a test end, in order. -/
def State.endEach (p : Entry → Bool) (o : EOutcome) (is : List EntryId) (s : State) : State :=
  is.foldl (fun t i => if p (t.entry i) then t.endEntry i o else t) s

theorem State.endWhere_eq (s : State) (p : Entry → Bool) (o : EOutcome) :
    s.endWhere p o = State.endEach p o (List.finRange 48) s := rfl

/-- The entry waits behind none that passes the test. -/
def State.Undisturbed (s : State) (p : Entry → Bool) (i : EntryId) : Prop :=
  (s.entry i).state = .waiting →
    ∀ j, p (s.entry j) = true → (s.entry j).state = .waiting → (s.entry j).slot ≠ (s.entry i).slot

section
variable {p : Entry → Bool} {o : EOutcome} {s : State} {i k : EntryId}

/-- The change that the end of one entry may make to another: none but of its arrival number. -/
theorem State.endIf_other (ne : k ≠ i) :
    ((if p (s.entry k) then s.endEntry k o else s).entry i)
      = { s.entry i with arrival := ((if p (s.entry k) then s.endEntry k o else s).entry i).arrival } := by
  split
  · rw [State.entry_endEntry, if_neg ne]
    split <;> rfl
  · rfl

theorem State.endIf_self :
    ((if p (s.entry k) then s.endEntry k o else s).entry k)
      = if p (s.entry k) then (s.entry k).gone o else s.entry k := by
  split
  · rw [State.entry_endEntry, if_pos rfl]
  · rfl

/-- An entry passes the test after another has ended where it passed before. -/
theorem Entry.Picks.endIf_other (picks : Entry.Picks p) (ne : k ≠ i) :
    p ((if p (s.entry k) then s.endEntry k o else s).entry i) = p (s.entry i) := by
  rw [State.endIf_other ne, picks.arrival]

theorem Entry.Picks.endIf_imp (picks : Entry.Picks p)
    (h : p ((if p (s.entry k) then s.endEntry k o else s).entry i) = true) : p (s.entry i) = true := by
  by_cases e : k = i
  · subst e
    rw [State.endIf_self] at h
    split at h
    · assumption
    · exact h
  · rwa [picks.endIf_other e] at h

theorem State.Undisturbed.kept (still : s.Undisturbed p i) (ne : k ≠ i) :
    (if p (s.entry k) then s.endEntry k o else s).entry i = s.entry i := by
  split
  · rename_i passes
    rw [State.entry_endEntry, if_neg ne, if_neg]
    rintro ⟨goes, waits, same, _⟩
    exact still waits k passes goes same.symm
  · rfl

/-- An entry that does not pass the test, and waits behind none that does, is kept. -/
theorem State.entry_endEach_kept (picks : Entry.Picks p) (is : List EntryId) (s : State) (still : s.Undisturbed p i)
    (out : i ∈ is → p (s.entry i) = false) : (State.endEach p o is s).entry i = s.entry i := by
  induction is generalizing s with
  | nil => rfl
  | cons k is ih =>
    have kept : (if p (s.entry k) then s.endEntry k o else s).entry i = s.entry i := by
      by_cases e : k = i
      · rw [e, State.endIf_self, if_neg (by simp [out (e ▸ List.mem_cons_self)])]
      · exact still.kept e
    rw [State.endEach, List.foldl_cons, ← State.endEach, ih _ ?_ fun mem => ?_, kept]
    · intro waits j passes goes
      rw [kept] at waits ⊢
      have same : ((if p (s.entry k) then s.endEntry k o else s).entry j).slot = (s.entry j).slot
          ∧ ((if p (s.entry k) then s.endEntry k o else s).entry j).state = (s.entry j).state := by
        by_cases e : k = j
        · subst e
          rw [State.endIf_self] at passes ⊢
          split at passes
          · rw [picks.gone] at passes
            cases passes
          · rename_i fails
            rw [if_neg fails]
            exact ⟨rfl, rfl⟩
        · rw [State.endIf_other e]
          exact ⟨rfl, rfl⟩
      rw [same.1]
      exact still waits j (picks.endIf_imp passes) (same.2 ▸ goes)
    · rw [kept]
      exact out (List.mem_cons_of_mem _ mem)

/-- An entry that passes the test ends with the outcome. -/
theorem State.entry_endEach_ended (picks : Entry.Picks p) (is : List EntryId) (s : State) (mem : i ∈ is)
    (passes : p (s.entry i) = true) : (State.endEach p o is s).entry i = (s.entry i).gone o := by
  induction is generalizing s with
  | nil => cases mem
  | cons k is ih =>
    rw [State.endEach, List.foldl_cons, ← State.endEach]
    by_cases e : k = i
    · subst e
      have ended : (if p (s.entry k) then s.endEntry k o else s).entry k = (s.entry k).gone o := by
        rw [State.endIf_self, if_pos passes]
      rw [State.entry_endEach_kept picks is _ ?_ fun _ => by rw [ended, picks.gone], ended]
      intro waits
      rw [ended] at waits
      cases waits
    · have later : i ∈ is := (List.mem_cons.mp mem).resolve_left (Ne.symm e)
      rw [ih _ later (by rwa [picks.endIf_other e]), State.endIf_other e]
      rfl

/-- Each agent counts its entries that ended no more (R95, R96). -/
theorem State.agent_endEach (picks : Entry.Picks p) (is : List EntryId) (s : State) (nodup : is.Nodup) (a : AgentId) :
    (State.endEach p o is s).agent a
      = { s.agent a with
          inUse := (s.agent a).inUse - is.countP fun i => p (s.entry i) && (s.entry i).agent == a } := by
  induction is generalizing s with
  | nil => rfl
  | cons k is ih =>
    obtain ⟨fresh, nodup⟩ := List.nodup_cons.mp nodup
    have rest : is.countP (fun i => p ((if p (s.entry k) then s.endEntry k o else s).entry i)
          && ((if p (s.entry k) then s.endEntry k o else s).entry i).agent == a)
        = is.countP fun i => p (s.entry i) && (s.entry i).agent == a := by
      refine List.countP_congr fun i mem => ?_
      have ne : k ≠ i := fun e => fresh (e ▸ mem)
      rw [picks.endIf_other ne, State.endIf_other ne]
    rw [State.endEach, List.foldl_cons, ← State.endEach, ih _ nodup, rest, List.countP_cons]
    split
    · rename_i passes
      rw [State.agent_endEntry]
      by_cases mine : (s.entry k).agent = a <;> simp [mine, passes, Nat.sub_sub, Nat.add_comm]
    · rename_i fails
      simp [fails]

end

theorem State.entry_endWhere_kept {s : State} {p : Entry → Bool} {o : EOutcome} {i : EntryId} (picks : Entry.Picks p)
    (still : s.Undisturbed p i) (fails : p (s.entry i) = false) : (s.endWhere p o).entry i = s.entry i := by
  rw [State.endWhere_eq]
  exact State.entry_endEach_kept picks _ s still fun _ => fails

theorem State.entry_endWhere_ended {s : State} {p : Entry → Bool} {o : EOutcome} {i : EntryId} (picks : Entry.Picks p)
    (passes : p (s.entry i) = true) : (s.endWhere p o).entry i = (s.entry i).gone o := by
  rw [State.endWhere_eq]
  exact State.entry_endEach_ended picks _ s (List.mem_finRange i) passes

/-! #### The frame -/

/-- Only windows, gates, entries and agents may differ between the two states. -/
def State.SameBesidesClaims (s t : State) : Prop :=
  t = { s with windows := t.windows, gates := t.gates, entries := t.entries, agents := t.agents }

theorem State.SameBesidesClaims.trans {s t u : State} (h : s.SameBesidesClaims t) (h' : t.SameBesidesClaims u) :
    s.SameBesidesClaims u :=
  Eq.trans h' (congrArg (fun x : State =>
    { x with windows := u.windows, gates := u.gates, entries := u.entries, agents := u.agents }) h)

theorem State.endWhere_sameBesidesClaims (s : State) (p : Entry → Bool) (o : EOutcome) :
    s.SameBesidesClaims (s.endWhere p o) := by
  refine State.endWhere_keeps (P := s.SameBesidesClaims) (fun t i h => h.trans ?_) p s rfl
  unfold State.endEntry State.vacate
  split <;> rfl

theorem State.modifyWindow_sameBesidesClaims (s : State) (k : SlotId) (f : Window → Window) :
    s.SameBesidesClaims (s.modifyWindow k f) := rfl

theorem State.modifyWindows_sameBesidesClaims (s : State) (ks : List SlotId) (f : Window → Window) :
    s.SameBesidesClaims (s.modifyWindows ks f) :=
  State.modifyWindows_keeps (P := s.SameBesidesClaims)
    (fun t k h => h.trans (t.modifyWindow_sameBesidesClaims k f)) ks s rfl

/-! #### The claims on a unit end as WINDOW_GONE -/

/-- The entry is WAITING, or HELD where `held` says so, and names one of the slots. -/
def Entry.goesWith (slots : List SlotId) (held : Bool) (e : Entry) : Bool :=
  (e.state == .waiting || held && e.state == .held) && slots.contains e.slot

theorem Entry.picks_goesWith (slots : List SlotId) (held : Bool) : Entry.Picks (Entry.goesWith slots held) where
  live e h := by
    simp only [Entry.goesWith, Bool.and_eq_true, Bool.or_eq_true] at h
    rcases h.1 with waits | holds
    · simp [Entry.live, waits]
    · simp [Entry.live, holds.2]
  arrival _ _ := rfl

theorem State.endWaits_eq (s : State) (slots : List SlotId) :
    s.endWaits slots = s.endWhere (Entry.goesWith slots false) .windowGone := by
  rw [State.endWaits]
  congr 1
  funext e
  simp [Entry.goesWith]

theorem State.endClaims_eq (s : State) (slots : List SlotId) :
    s.endClaims slots = s.endWhere (Entry.goesWith slots true) .windowGone := by
  rw [State.endClaims]
  congr 1

theorem State.endWhere_claimsGone (s : State) (slots : List SlotId) (held : Bool) :
    s.ClaimsGone (s.endWhere (Entry.goesWith slots held) .windowGone) slots held := by
  have picks := Entry.picks_goesWith slots held
  refine ⟨fun i => ?_, fun a => State.agent_endEach picks _ s (List.nodup_finRange 48) a⟩
  split
  · rename_i goes
    exact State.entry_endWhere_ended picks goes
  · rename_i stays
    refine State.entry_endWhere_kept picks (fun waits j goes _ same => stays ?_) (by simpa [Entry.goesWith] using stays)
    simp only [Entry.goesWith, Bool.and_eq_true, same] at goes
    exact Bool.and_eq_true_iff.mpr ⟨by simp [waits], goes.2⟩

/-! #### Gates and the changes of windows (R24, R145) -/

theorem Gate.report_self (k : SlotId) (w : WState) (x : Gate) : x.report k w w = x := if_neg fun both => both.2 rfl

/-- Two changes, of which each slot makes at most one change of state, are reported as one. -/
theorem State.GatesReported.trans {s t u : State} (h : s.GatesReported t) (h' : t.GatesReported u)
    (once : ∀ k, (t.window k).state = (s.window k).state ∨ (u.window k).state = (t.window k).state) :
    s.GatesReported u := by
  intro g
  have first := h g
  have second := h' g
  rcases bound : (s.gate g).binding with _ | k
  · rw [bound] at first
    rw [first, bound] at second
    exact second
  · have kept : (t.gate g).binding = some k := by
      rw [first, bound, Gate.report_binding, bound]
    rw [bound] at first
    rw [kept] at second
    rcases once k with same | same <;> simp only [second, first, same, Gate.report_self]

theorem State.GatesReported.modifyWindow (s : State) (k : SlotId) (f : Window → Window) :
    s.GatesReported (s.modifyWindow k f) := by
  intro g
  rw [State.gate_modifyWindow]
  split
  · rename_i unbound
    exact Gate.report_other (by simp [unbound]) _ _
  · rename_i j bound
    by_cases e : k = j
    · rw [e, State.window_modifyWindow_self]
    · rw [State.window_modifyWindow, if_neg e, Gate.report_self, Gate.report_other (by simp [bound, Ne.symm e])]

theorem State.GatesReported.modifyWindows {ks : List SlotId} (nodup : ks.Nodup) (s : State) (f : Window → Window) :
    s.GatesReported (s.modifyWindows ks f) := by
  induction ks generalizing s with
  | nil => exact fun g => by split <;> simp [Gate.report_self]
  | cons k ks ih =>
    obtain ⟨fresh, nodup⟩ := List.nodup_cons.mp nodup
    refine (State.GatesReported.modifyWindow s k f).trans (ih nodup _) fun j => ?_
    by_cases e : k = j
    · refine .inr ?_
      rw [State.modifyWindows_cons, State.window_modifyWindows_notMem _ _ _ _ (e ▸ fresh)]
    · exact .inl (by rw [State.window_modifyWindow, if_neg e])

/-- What keeps the gates, and the states of the windows, reports nothing. -/
theorem State.GatesReported.of_same {s t : State} (gates : ∀ g, t.gate g = s.gate g)
    (states : ∀ k, (t.window k).state = (s.window k).state) : s.GatesReported t := fun g => by
  split <;> simp [gates, states, Gate.report_self]

/-! #### Writing the windows of a unit -/

/-- A change of several windows, each once, slot by slot. -/
theorem State.window_modifyWindows {ks : List SlotId} (nodup : ks.Nodup) (s : State) (f : Window → Window)
    (j : SlotId) :
    (s.modifyWindows ks f).window j = if j ∈ ks then f (s.window j) else s.window j := by
  split
  · exact s.window_modifyWindows_mem ks f j nodup ‹_›
  · exact s.window_modifyWindows_notMem ks f j ‹_›

/-! #### Draining and freeing a unit (R107, R108, R122, R126) -/

/-- The windows of a unit that goes to DRAINING. -/
theorem State.window_drainUnit (s : State) (h j : SlotId) :
    (s.drainUnit h).window j
      = if j ∈ s.unitSlots h then
          { s.window j with
            state := .draining, drainCount := if j = h then s.drainLimit else (s.window j).drainCount }
        else s.window j := by
  have entered (k : SlotId) := State.window_modifyWindows (s.unitSlots_nodup h) (s.endWaits (s.unitSlots h))
    (fun w => { w with state := .draining }) k
  have waits (k : SlotId) : (s.endWaits (s.unitSlots h)).window k = s.window k := by simp [State.endWaits]
  rw [State.drainUnit, State.window_modifyWindow, entered, entered]
  by_cases e : h = j
  · subst e
    simp [s.mem_unitSlots_self h, waits]
  · simp [e, Ne.symm e, waits]

theorem State.window_goneUnit (s : State) (h j : SlotId) :
    (s.goneUnit h).window j = if j ∈ s.unitSlots h then Window.free else s.window j := by
  rw [State.goneUnit, State.clearSlots, State.window_modifyWindows (s.unitSlots_nodup h)]
  simp [State.endClaims]

/-- Windows and gates alone differ between the two states. -/
theorem State.ClaimsGone.of_tables {s t u : State} {slots : List SlotId} {held : Bool} (h : s.ClaimsGone t slots held)
    (entries : ∀ i, u.entry i = t.entry i) (agents : ∀ a, u.agent a = t.agent a) : s.ClaimsGone u slots held :=
  ⟨fun i => (entries i).trans (h.1 i), fun a => (agents a).trans (h.2 a)⟩

theorem State.drainUnit_drainedTo (s : State) (h : SlotId) : s.DrainedTo (s.drainUnit h) h (s.unitSlots h) := by
  have gone := s.endWhere_claimsGone (s.unitSlots h) false
  have reported := State.GatesReported.modifyWindows (s.unitSlots_nodup h) (s.endWaits (s.unitSlots h))
    fun w => { w with state := .draining }
  have loaded := State.GatesReported.modifyWindow ((s.endWaits (s.unitSlots h)).modifyWindows (s.unitSlots h)
    fun w => { w with state := .draining }) h fun w => { w with drainCount := s.drainLimit }
  rw [← State.endWaits_eq] at gone
  refine ⟨?_, s.window_drainUnit h, gone.of_tables (fun i => by simp [State.drainUnit])
    (fun a => by simp [State.drainUnit]), ?_⟩
  · exact (s.endWhere_sameBesidesClaims _ _).trans
      ((State.modifyWindows_sameBesidesClaims _ (s.unitSlots h) _).trans (State.modifyWindow_sameBesidesClaims _ h _))
  · refine State.GatesReported.trans (t := s.endWaits (s.unitSlots h)) (.of_same (fun g => ?_) fun k => ?_)
      (reported.trans loaded fun k => .inr ((State.states_modifyWindow _ h ⟨rfl, rfl⟩ k).1)) fun k => .inl ?_
    · simp [State.endWaits, State.gate]
    all_goals simp [State.endWaits]

theorem State.goneUnit_freedTo (s : State) (h : SlotId) : s.FreedTo (s.goneUnit h) (s.unitSlots h) := by
  have gone := s.endWhere_claimsGone (s.unitSlots h) true
  have reported := State.GatesReported.modifyWindows (s.unitSlots_nodup h) (s.endClaims (s.unitSlots h))
    fun _ => Window.free
  rw [← State.endClaims_eq] at gone
  refine ⟨?_, s.window_goneUnit h, gone.of_tables (fun i => by simp [State.goneUnit, State.clearSlots])
    (fun a => by simp [State.goneUnit, State.clearSlots]), ?_⟩
  · exact (s.endWhere_sameBesidesClaims _ _).trans (State.modifyWindows_sameBesidesClaims _ (s.unitSlots h) _)
  · refine State.GatesReported.trans (t := s.endClaims (s.unitSlots h)) (.of_same (fun g => ?_) fun k => ?_)
      reported fun k => .inl ?_
    · simp [State.endClaims, State.gate]
    all_goals simp [State.endClaims]

end Sys2Proof.Machine

/-! ### What a tick does to claims, causes, the expired set and gates -/

namespace Sys2Proof.Machine

/-! #### The effect, apart from the windows -/

/-- What a part of a tick does apart from the windows it changes: the entries it ends as WINDOW_GONE, the slots whose
TOGGLE gates flip, the slots that enter the expired set, and the causes it raises. -/
structure TickEffect where
  ends : EntryId → Bool
  flips : SlotId → Bool
  expires : SlotId → Prop
  raises : Cause → Prop

/-- A change of windows alone. -/
def TickEffect.quiet : TickEffect where
  ends _ := false
  flips _ := false
  expires _ := False
  raises _ := False

/-- One effect after another. -/
def TickEffect.plus (d e : TickEffect) : TickEffect where
  ends i := d.ends i || e.ends i
  flips k := d.flips k || e.flips k
  expires k := d.expires k ∨ e.expires k
  raises c := d.raises c ∨ e.raises c

/-- From `s` to `t` the effect takes place: the entries it names end and count no more, the gates follow the change of
their slot's state, and what it adds to the causes and the expired set stands besides what was there. -/
structure State.TicksTo (s t : State) (e : TickEffect) : Prop where
  frame : t = { s with
    windows := t.windows, gates := t.gates, entries := t.entries, agents := t.agents,
    attn := { s.attn with causes := t.attn.causes, expired := t.attn.expired } }
  entry : ∀ i, t.entry i = if e.ends i then (s.entry i).gone .windowGone else s.entry i
  agent : ∀ a, t.agent a
    = { s.agent a with
        inUse := (s.agent a).inUse - (List.finRange 48).countP fun i => e.ends i && (s.entry i).agent == a }
  cause : ∀ c : Cause,
    t.attn.causes.getLsbD c.bit = true ↔ s.attn.causes.getLsbD c.bit = true ∨ e.raises c
  expired : ∀ k : SlotId,
    t.attn.expired.getLsbD k.val = true ↔ s.attn.expired.getLsbD k.val = true ∨ e.expires k
  unbound : ∀ g, (s.gate g).binding = none → t.gate g = s.gate g
  bound : ∀ g k, (s.gate g).binding = some k →
    t.gate g = (if e.flips k then (s.gate g).flip k else s.gate g).report k (s.window k).state (t.window k).state

section
variable {s t u : State} {d e : TickEffect}

theorem State.TicksTo.congr (h : s.TicksTo t d) (ends : ∀ i, d.ends i = e.ends i) (flips : ∀ k, d.flips k = e.flips k)
    (expires : ∀ k, d.expires k ↔ e.expires k) (raises : ∀ c, d.raises c ↔ e.raises c) : s.TicksTo t e := by
  have same : d = e := by
    obtain ⟨_, _, _, _⟩ := d
    obtain ⟨_, _, _, _⟩ := e
    simp only [TickEffect.mk.injEq]
    exact ⟨funext ends, funext flips, funext fun k => propext (expires k), funext fun c => propext (raises c)⟩
  exact same ▸ h

/-- What counts to the union of two tests that exclude each other. -/
theorem countP_or_of_disjoint {α : Type} {p q : α → Bool} (l : List α) (disjoint : ∀ a, p a = true → q a = false) :
    l.countP (fun a => p a || q a) = l.countP p + l.countP q := by
  induction l with
  | nil => rfl
  | cons a l ih =>
    have := disjoint a
    cases hp : p a <;> cases hq : q a <;> simp_all <;> omega

theorem State.TicksTo.binding (h : s.TicksTo t e) (g : GateId) : (t.gate g).binding = (s.gate g).binding := by
  rcases bound : (s.gate g).binding with _ | k
  · rw [h.unbound g bound, bound]
  · rw [h.bound g k bound, Gate.report_binding]
    split
    · rw [Gate.flip_binding, bound]
    · exact bound

/-- Two effects, one after the other, that end different entries and change each slot's state, and flip its gates, at
most once. -/
theorem State.TicksTo.trans (h : s.TicksTo t d) (h' : t.TicksTo u e) (ends : ∀ i, d.ends i = true → e.ends i = false)
    (once : ∀ k, ((t.window k).state = (s.window k).state ∧ (d.flips k = true → e.flips k = false))
      ∨ ((u.window k).state = (t.window k).state ∧ e.flips k = false)) : s.TicksTo u (d.plus e) where
  frame := h'.frame.trans (congrArg (fun x : State => { x with
    windows := u.windows, gates := u.gates, entries := u.entries, agents := u.agents,
    attn := { x.attn with causes := u.attn.causes, expired := u.attn.expired } }) h.frame)
  entry i := by
    rw [h'.entry, h.entry]
    have := ends i
    cases hd : d.ends i <;> cases he : e.ends i <;> simp_all [TickEffect.plus]
  agent a := by
    have same (i : EntryId) : (t.entry i).agent = (s.entry i).agent := by
      rw [h.entry]
      split <;> rfl
    rw [h'.agent, h.agent]
    simp only [same, TickEffect.plus, Bool.and_or_distrib_right, Nat.sub_sub]
    rw [countP_or_of_disjoint]
    intro i ending
    simp only [Bool.and_eq_true] at ending
    simp [ends i ending.1]
  cause c := by rw [h'.cause, h.cause, TickEffect.plus, or_assoc]
  expired k := by rw [h'.expired, h.expired, TickEffect.plus, or_assoc]
  unbound g unbound := by rw [h'.unbound g (by rw [h.binding, unbound]), h.unbound g unbound]
  bound g k bound := by
    rw [h'.bound g k (by rw [h.binding, bound]), h.bound g k bound]
    rcases once k with ⟨same, flips⟩ | ⟨same, flips⟩
    · rw [same, Gate.report_self]
      cases hd : d.flips k <;> simp_all [TickEffect.plus]
    · rw [same, Gate.report_self, flips]
      simp [TickEffect.plus, flips]

/-- A second change of windows alone, where it changes no state that the first has changed. -/
theorem State.TicksTo.quietly (h : s.TicksTo t e) (h' : t.TicksTo u .quiet)
    (once : ∀ k, (t.window k).state = (s.window k).state ∨ (u.window k).state = (t.window k).state) :
    s.TicksTo u e :=
  (h.trans h' (fun _ _ => rfl) fun k => (once k).imp (⟨·, fun _ => rfl⟩) (⟨·, rfl⟩)).congr
    (fun _ => Bool.or_false _) (fun _ => Bool.or_false _) (fun _ => or_iff_left not_false)
    (fun _ => or_iff_left not_false)

/-- A change of windows alone first, which changes no state. -/
theorem State.TicksTo.after (h : s.TicksTo t .quiet) (h' : t.TicksTo u e)
    (states : ∀ k, (t.window k).state = (s.window k).state) : s.TicksTo u e :=
  (h.trans h' (fun _ off => Bool.noConfusion off) fun k => .inl ⟨states k, fun off => Bool.noConfusion off⟩).congr
    (fun _ => Bool.false_or _) (fun _ => Bool.false_or _) (fun _ => or_iff_right not_false)
    (fun _ => or_iff_right not_false)

end

/-! #### The operations of a tick -/

/-- Changes of windows, entries and agents alone, with the gates reported. -/
theorem State.TicksTo.of_claims {s t : State} {ends : EntryId → Bool} (same : s.SameBesidesClaims t)
    (entry : ∀ i, t.entry i = if ends i then (s.entry i).gone .windowGone else s.entry i)
    (agent : ∀ a, t.agent a
      = { s.agent a with
          inUse := (s.agent a).inUse - (List.finRange 48).countP fun i => ends i && (s.entry i).agent == a })
    (gates : s.GatesReported t) : s.TicksTo t { TickEffect.quiet with ends } where
  frame := by
    have attn : t.attn = s.attn := by rw [same]
    rw [attn]
    exact same
  entry := entry
  agent := agent
  cause c := by rw [same]; exact (or_iff_left not_false).symm
  expired k := by rw [same]; exact (or_iff_left not_false).symm
  unbound g unbound := by rw [gates g, unbound]
  bound g k bound := by rw [gates g, bound]; rfl

theorem State.TicksTo.refl (s : State) : s.TicksTo s .quiet :=
  .of_claims rfl (fun _ => rfl) (fun a => by simp) (.of_same (fun _ => rfl) fun _ => rfl)

theorem State.TicksTo.modifyWindows {ks : List SlotId} (nodup : ks.Nodup) (s : State) (f : Window → Window) :
    s.TicksTo (s.modifyWindows ks f) .quiet :=
  .of_claims (s.modifyWindows_sameBesidesClaims ks f) (fun _ => by simp) (fun a => by simp)
    (.modifyWindows nodup s f)

theorem State.TicksTo.modifyWindow (s : State) (k : SlotId) (f : Window → Window) :
    s.TicksTo (s.modifyWindow k f) .quiet :=
  State.TicksTo.modifyWindows (List.nodup_singleton k) s f

theorem State.TicksTo.drainUnit (s : State) (h : SlotId) :
    s.TicksTo (s.drainUnit h) { TickEffect.quiet with ends i := (s.entry i).goesWith (s.unitSlots h) false } := by
  obtain ⟨same, _, ⟨entry, agent⟩, gates⟩ := s.drainUnit_drainedTo h
  exact .of_claims same entry agent gates

theorem State.TicksTo.goneUnit (s : State) (h : SlotId) :
    s.TicksTo (s.goneUnit h) { TickEffect.quiet with ends i := (s.entry i).goesWith (s.unitSlots h) true } := by
  obtain ⟨same, _, ⟨entry, agent⟩, gates⟩ := s.goneUnit_freedTo h
  exact .of_claims same entry agent gates

theorem Cause.mask_getLsbD (c d : Cause) : c.mask.getLsbD d.bit = true ↔ d = c := by
  cases c <;> cases d <;> decide

theorem slotBit_getLsbD (h k : SlotId) : (1#64 <<< h.val).getLsbD k.val = true ↔ k = h := by
  rw [← BitVec.twoPow_eq, BitVec.getLsbD_twoPow]
  simp [Fin.ext_iff, eq_comm]

theorem State.TicksTo.raise (s : State) (c : Cause) :
    s.TicksTo (s.raise c) { TickEffect.quiet with raises d := d = c } where
  frame := rfl
  entry _ := rfl
  agent a := by simp [TickEffect.quiet]
  cause d := by
    show (s.attn.causes ||| c.mask).getLsbD d.bit = true ↔ _
    rw [BitVec.getLsbD_or, Bool.or_eq_true, Cause.mask_getLsbD]
  expired _ := (or_iff_left not_false).symm
  unbound _ _ := rfl
  bound _ _ _ := (Gate.report_self _ _ _).symm

theorem State.TicksTo.addExpired (s : State) (h : SlotId) :
    s.TicksTo (s.addExpired h) { TickEffect.quiet with expires k := k = h } where
  frame := rfl
  entry _ := rfl
  agent a := by simp [TickEffect.quiet]
  cause _ := (or_iff_left not_false).symm
  expired k := by
    show (s.attn.expired ||| (1#64 <<< h.val)).getLsbD k.val = true ↔ _
    rw [BitVec.getLsbD_or, Bool.or_eq_true, slotBit_getLsbD]
  unbound _ _ := rfl
  bound _ _ _ := (Gate.report_self _ _ _).symm

theorem State.TicksTo.flipToggles (s : State) (h : SlotId) :
    s.TicksTo (s.flipToggles h) { TickEffect.quiet with flips k := k == h } where
  frame := rfl
  entry _ := rfl
  agent a := by simp [TickEffect.quiet]
  cause _ := (or_iff_left not_false).symm
  expired _ := (or_iff_left not_false).symm
  unbound g unbound := by rw [State.gate_flipToggles, Gate.flip_other (by simp [unbound])]
  bound g k bound := by
    rw [State.gate_flipToggles, State.flipToggles_window, Gate.report_self]
    split
    · rename_i same
      rw [beq_iff_eq.mp same]
    · rename_i other
      rw [Gate.flip_other fun mine => absurd (Option.some.inj (bound.symm.trans mine)) (by simpa using other)]

/-- Raising a cause besides. -/
theorem State.TicksTo.raised {s t : State} {e : TickEffect} (h : s.TicksTo t e) (c : Cause) :
    s.TicksTo (t.raise c) { e with raises d := e.raises d ∨ d = c } :=
  (h.trans (.raise t c) (fun _ _ => rfl) fun _ => .inr ⟨rfl, rfl⟩).congr
    (fun _ => Bool.or_false _) (fun _ => Bool.or_false _) (fun _ => or_iff_left not_false) (fun _ => Iff.rfl)

/-- Entering the expired set besides. -/
theorem State.TicksTo.expiring {s t : State} {e : TickEffect} (h : s.TicksTo t e) (k : SlotId) :
    s.TicksTo (t.addExpired k) { e with expires j := e.expires j ∨ j = k } :=
  (h.trans (.addExpired t k) (fun _ _ => rfl) fun _ => .inr ⟨rfl, rfl⟩).congr
    (fun _ => Bool.or_false _) (fun _ => Bool.or_false _) (fun _ => Iff.rfl) (fun _ => or_iff_left not_false)

/-- Freezing besides: only an OPEN window changes, and only where nothing had opened it. -/
theorem State.TicksTo.frozen {s t : State} {e : TickEffect} (h : s.TicksTo t e)
    (shut : ∀ k, (t.window k).state = .opened → (s.window k).state = .opened) {ks : List SlotId} (nodup : ks.Nodup) :
    s.TicksTo (t.modifyWindows ks Window.freeze) e := by
  refine h.quietly (.modifyWindows nodup t _) fun k => ?_
  by_cases opened : (t.window k).state = .opened
  · exact .inl (by rw [opened, shut k opened])
  · refine .inr ?_
    rw [State.window_modifyWindows nodup, Window.freeze, if_neg opened, ite_self]

end Sys2Proof.Machine

/-! ### The tick on one unit (R64 to R73, R85, R88, R89, R91, R124) -/

namespace Sys2Proof.Machine

/-! #### Units that keep their slots -/

/-- The slots of a unit depend on which slots hold a MEMBER and a HEAD alone. -/
theorem State.unitSlots_congr_states {s t : State}
    (same : ∀ j, (t.window j).state = (s.window j).state ∧ (t.window j).role = (s.window j).role) (h : SlotId) :
    t.unitSlots h = s.unitSlots h := by
  have members (j : SlotId) : (t.window j).isMember = (s.window j).isMember := by simp [Window.isMember, same]
  have heads (j : SlotId) : (t.window j).isHead = (s.window j).isHead := by simp [Window.isHead, same]
  have collected (fuel k : Nat) : t.membersFrom fuel k = s.membersFrom fuel k := by
    induction fuel generalizing k with
    | zero => rfl
    | succ n ih => simp only [State.membersFrom, members, ih]
  simp only [State.unitSlots, heads, collected]

theorem State.anyHeld_congr {s t : State} (e : ∀ i, t.entry i = s.entry i) (slots : List SlotId) :
    t.anyHeld slots = s.anyHeld slots := by
  simp [State.anyHeld, e]

theorem State.anyHeld_iff {s : State} {slots : List SlotId} :
    s.anyHeld slots = true ↔ ∃ i : EntryId, (s.entry i).state = .held ∧ (s.entry i).slot ∈ slots := by
  simp [State.anyHeld]

/-! #### The expiry of a lease (R69 to R72, R88) -/

/-- The window of a slot of the unit after the expiry action. `owner` says that the slot owns the lease, `held` that a
HELD entry names the unit. -/
def Window.expire (action : ExpiryAction) (owner : Bool) (limit : Nat) (held : Bool) (w : Window) : Window :=
  match action with
  | .reload => if owner then { w with leaseCount := w.leaseReload } else w
  | .freeze => w.freeze
  | .retire =>
    if held then { w with state := .draining, drainCount := if owner then limit else w.drainCount } else Window.free

theorem State.retireUnit_opened {s : State} {h : SlotId} (opened : (s.window h).state = .opened) :
    s.retireUnit h false = if s.anyHeld (s.unitSlots h) then s.drainUnit h else s.goneUnit h := by
  simp [State.retireUnit, opened]

section
variable {s : State} {h : SlotId} (opened : (s.window h).state = .opened)
include opened

theorem State.window_expireLease (j : SlotId) :
    (s.expireLease h).window j
      = if j ∈ s.unitSlots h then
          (s.window j).expire (s.window h).expiryAction (decide (j = h)) s.drainLimit (s.anyHeld (s.unitSlots h))
        else s.window j := by
  rw [(s.expireLease_keeps_tables h).window, State.leaseAction]
  have self := s.mem_unitSlots_self h
  cases (s.window h).expiryAction with
  | reload =>
    rw [State.flipToggles_window, State.window_modifyWindow]
    by_cases e : h = j
    · subst e
      simp [self, Window.expire]
    · simp [e, Ne.symm e, Window.expire]
  | freeze => exact State.window_modifyWindows (s.unitSlots_nodup h) s _ j
  | retire =>
    simp only [State.retireUnit_opened opened]
    split
    · simp [State.window_drainUnit, Window.expire, *]
    · simp [State.window_goneUnit, Window.expire, *]

theorem State.TicksTo.expireLease :
    s.TicksTo (s.expireLease h)
      { ends i := (s.window h).expiryAction == .retire && (s.entry i).goesWith (s.unitSlots h) false
        flips k := (s.window h).expiryAction == .reload && k == h
        expires k := k = h
        raises c := c = .expired } := by
  have acted : s.TicksTo (s.leaseAction h)
      { TickEffect.quiet with
        ends i := (s.window h).expiryAction == .retire && (s.entry i).goesWith (s.unitSlots h) false
        flips k := (s.window h).expiryAction == .reload && k == h } := by
    rw [State.leaseAction]
    cases (s.window h).expiryAction with
    | reload => exact (State.TicksTo.modifyWindow s h _).after (.flipToggles _ h) fun k =>
        (s.states_modifyWindow h ⟨rfl, rfl⟩ k).1
    | freeze => exact .modifyWindows (s.unitSlots_nodup h) s _
    | retire =>
      simp only [State.retireUnit_opened opened]
      split
      · exact .drainUnit s h
      · rename_i unheld
        refine (State.TicksTo.goneUnit s h).congr (fun i => ?_) (fun _ => rfl) (fun _ => Iff.rfl) fun _ => Iff.rfl
        rw [State.anyHeld_iff] at unheld
        by_cases mem : (s.entry i).slot ∈ s.unitSlots h
        · have : (s.entry i).state ≠ .held := fun held => unheld ⟨i, held, mem⟩
          simp [Entry.goesWith, beq_eq_false_iff_ne.mpr this]
        · simp [Entry.goesWith, mem]
  exact ((acted.expiring h).raised .expired).congr (fun _ => rfl) (fun _ => rfl) (fun _ => or_iff_right not_false)
    fun _ => or_iff_right not_false

end

/-! #### Steps 1 and 2 on an OPEN unit: the counts, and the lease expiry -/

/-- The lease of the unit of `h` runs out at this tick. -/
def State.leaseEnds (s : State) (h : SlotId) : Bool := (s.window h).countDown.leaseOut

/-- The lease of the unit of `h` runs out at this tick, and its expiry action is this one. -/
def State.leaseActs (s : State) (h : SlotId) (action : ExpiryAction) : Bool :=
  s.leaseEnds h && (s.window h).expiryAction == action

/-- The window of slot `j` of the OPEN unit of `h` after the counts and the lease expiry. -/
def State.leasedWindow (s : State) (h j : SlotId) : Window :=
  if s.leaseEnds h then
    (s.window j).countDown.expire (s.window h).expiryAction (decide (j = h)) s.drainLimit (s.anyHeld (s.unitSlots h))
  else (s.window j).countDown

theorem Window.leaseOut_countDown {w : Window} :
    w.countDown.leaseOut = true ↔ w.state = .opened ∧ w.leaseMode = .timed ∧ w.leaseCount ≤ 1 := by
  by_cases opened : w.state = .opened <;> by_cases timed : w.leaseMode = .timed <;>
    simp [Window.countDown, Window.leaseOut, opened, timed]
  omega

theorem Window.idleOut_countDown {w : Window} :
    w.countDown.idleOut = true ↔ w.state = .opened ∧ w.idleLimit ≠ none ∧ w.idleCount ≤ 1 := by
  by_cases opened : w.state = .opened <;> by_cases limited : w.idleLimit = none <;>
    simp [Window.countDown, Window.idleOut, opened, limited, Option.isSome_iff_ne_none]
  omega

theorem State.leaseEnds_iff {s : State} {h : SlotId} :
    s.leaseEnds h = true
      ↔ (s.window h).state = .opened ∧ (s.window h).leaseMode = .timed ∧ (s.window h).leaseCount ≤ 1 :=
  Window.leaseOut_countDown

theorem Window.countDown_expiryAction (w : Window) : w.countDown.expiryAction = w.expiryAction := by
  unfold Window.countDown
  split <;> rfl

section
variable {s : State} {h : SlotId}

theorem State.states_countedUnit (j : SlotId) :
    ((s.countedUnit h).window j).state = (s.window j).state
      ∧ ((s.countedUnit h).window j).role = (s.window j).role :=
  State.states_modifyWindows Window.countDown_states _ s j

@[simp] theorem State.unitSlots_countedUnit (k : SlotId) : (s.countedUnit h).unitSlots k = s.unitSlots k :=
  State.unitSlots_congr_states State.states_countedUnit k

theorem State.window_countedUnit_slot (j : SlotId) :
    (s.countedUnit h).window j = if j ∈ s.unitSlots h then (s.window j).countDown else s.window j :=
  State.window_modifyWindows (s.unitSlots_nodup h) s _ j

@[simp] theorem State.entry_countedUnit (i : EntryId) : (s.countedUnit h).entry i = s.entry i :=
  State.modifyWindows_entry s _ _ i

@[simp] theorem State.drainLimit_countedUnit : (s.countedUnit h).drainLimit = s.drainLimit :=
  State.modifyWindows_drainLimit s _ _

@[simp] theorem State.anyHeld_countedUnit (slots : List SlotId) : (s.countedUnit h).anyHeld slots = s.anyHeld slots :=
  State.anyHeld_congr State.entry_countedUnit slots

theorem State.expiryAction_countedUnit : ((s.countedUnit h).window h).expiryAction = (s.window h).expiryAction := by
  rw [State.window_countedUnit, Window.countDown_expiryAction]

theorem State.leasedUnit_eq :
    s.leasedUnit h = if s.leaseEnds h then (s.countedUnit h).expireLease h else s.countedUnit h := by
  rw [State.leasedUnit, State.window_countedUnit, State.leaseEnds]

theorem State.countedUnit_opened (ends : s.leaseEnds h = true) : ((s.countedUnit h).window h).state = .opened := by
  rw [(State.states_countedUnit h).1]
  exact (State.leaseEnds_iff.mp ends).1

theorem State.window_leasedUnit (j : SlotId) :
    (s.leasedUnit h).window j = if j ∈ s.unitSlots h then s.leasedWindow h j else s.window j := by
  rw [State.leasedUnit_eq, State.leasedWindow]
  split
  · rename_i ends
    rw [State.window_expireLease (State.countedUnit_opened ends), State.expiryAction_countedUnit,
      State.window_countedUnit_slot]
    simp only [State.unitSlots_countedUnit, State.anyHeld_countedUnit, State.drainLimit_countedUnit]
    split <;> rfl
  · exact State.window_countedUnit_slot j

/-- The effect of the lease expiry of an OPEN unit. -/
def State.leaseEffect (s : State) (h : SlotId) : TickEffect where
  ends i := s.leaseActs h .retire && (s.entry i).goesWith (s.unitSlots h) false
  flips k := s.leaseActs h .reload && k == h
  expires k := s.leaseEnds h = true ∧ k = h
  raises c := s.leaseEnds h = true ∧ c = .expired

theorem State.TicksTo.leasedUnit : s.TicksTo (s.leasedUnit h) (s.leaseEffect h) := by
  have counted : s.TicksTo (s.countedUnit h) .quiet := .modifyWindows (s.unitSlots_nodup h) s _
  rw [State.leasedUnit_eq]
  split
  · rename_i ends
    refine (counted.after (.expireLease (State.countedUnit_opened ends)) fun k =>
      (State.states_countedUnit k).1).congr (fun i => ?_) (fun k => ?_) (fun k => ?_) fun c => ?_
    · simp [State.leaseEffect, State.expiryAction_countedUnit, State.leaseActs, ends]
    · simp [State.leaseEffect, State.expiryAction_countedUnit, State.leaseActs, ends]
    · exact (and_iff_right ends).symm
    · exact (and_iff_right ends).symm
  · rename_i kept
    rw [Bool.not_eq_true] at kept
    have nothing : s.leaseEffect h = .quiet := by
      simp [State.leaseEffect, TickEffect.quiet, State.leaseActs, kept]
    exact nothing ▸ counted

/-- The counts and the lease expiry open no window. -/
theorem State.leasedWindow_shut {j : SlotId} (opened : (s.leasedWindow h j).state = .opened) :
    (s.window j).state = .opened := by
  have counted := (s.window j).countDown_states.1
  unfold State.leasedWindow at opened
  split at opened
  · rw [← counted]
    unfold Window.expire at opened
    split at opened
    · split at opened <;> exact opened
    · rw [Window.state_freeze] at opened
      split at opened <;> assumption
    · split at opened <;> cases opened
  · exact counted ▸ opened

/-- Where the owner is still OPEN after the lease expiry, no state and no role of the unit has changed. -/
theorem State.leasedWindow_states (opened : (s.leasedWindow h h).state = .opened) (j : SlotId) :
    (s.leasedWindow h j).state = (s.window j).state ∧ (s.leasedWindow h j).role = (s.window j).role := by
  have counted := (s.window j).countDown_states
  unfold State.leasedWindow at opened ⊢
  split
  · rename_i ends
    rw [if_pos ends] at opened
    cases action : (s.window h).expiryAction with
    | reload =>
      simp only [Window.expire]
      split <;> exact counted
    | freeze =>
      rw [action, Window.expire, Window.state_freeze] at opened
      split at opened
      · cases opened
      · contradiction
    | retire =>
      rw [action] at opened
      unfold Window.expire at opened
      simp only at opened
      split at opened <;> cases opened
  · exact counted

end

end Sys2Proof.Machine

/-! ### The idle expiries, the drain, and the tick on a unit as a whole -/

namespace Sys2Proof.Machine

/-! #### Steps 3 and 4 on an OPEN unit: the idle expiries (R73, R89) -/

/-- An idle expiry freezes the window. -/
def Window.idled (w : Window) : Window := if w.idleOut then w.freeze else w

theorem State.window_idleOutAlone (s : State) (k j : SlotId) :
    (s.idleOutAlone k).window j = if k = j then (s.window j).freeze else s.window j := by
  rw [State.idleOutAlone, State.raise_window, State.window_modifyWindow]
  split
  · rename_i e
    rw [e]
  · rfl

theorem State.window_foldl_idleOutAlone {ks : List SlotId} (nodup : ks.Nodup) (s : State) (j : SlotId) :
    (ks.foldl (fun t k => if (t.window k).idleOut then t.idleOutAlone k else t) s).window j
      = if j ∈ ks then (s.window j).idled else s.window j := by
  induction ks generalizing s with
  | nil => rfl
  | cons k ks ih =>
    obtain ⟨fresh, nodup⟩ := List.nodup_cons.mp nodup
    have one : (if (s.window k).idleOut then s.idleOutAlone k else s).window j
        = if k = j then (s.window j).idled else s.window j := by
      split
      · rename_i idle
        rw [State.window_idleOutAlone]
        split
        · rename_i e
          rw [Window.idled, ← e, if_pos idle]
        · rfl
      · rename_i busy
        split
        · rename_i e
          rw [Window.idled, ← e, if_neg busy]
        · rfl
    rw [List.foldl_cons, ih nodup, one]
    by_cases e : k = j
    · subst e
      simp [fresh]
    · simp [e, Ne.symm e]

/-- The idle expiries of the slots of a list raise IDLE where there is one, and have no effect but that and the
freeze. -/
theorem State.TicksTo.foldl_idleOutAlone {s t : State} {e : TickEffect} (h : s.TicksTo t e)
    (shut : ∀ k, (t.window k).state = .opened → (s.window k).state = .opened) {ks : List SlotId} (nodup : ks.Nodup) :
    s.TicksTo (ks.foldl (fun t k => if (t.window k).idleOut then t.idleOutAlone k else t) t)
      { e with raises c := e.raises c ∨ (c = .idle ∧ ∃ k ∈ ks, (t.window k).idleOut = true) } := by
  induction ks generalizing t e with
  | nil => exact h.congr (fun _ => rfl) (fun _ => rfl) (fun _ => Iff.rfl) fun c => by simp
  | cons k ks ih =>
    obtain ⟨fresh, nodup⟩ := List.nodup_cons.mp nodup
    rw [List.foldl_cons]
    split
    · rename_i idle
      have frozen : s.TicksTo (t.idleOutAlone k) { e with raises c := e.raises c ∨ c = .idle } :=
        (h.frozen shut (List.nodup_singleton k)).raised .idle
      refine (ih frozen (fun j opened => shut j ?_) nodup).congr (fun _ => rfl) (fun _ => rfl) (fun _ => Iff.rfl)
        fun c => ?_
      · rw [State.window_idleOutAlone] at opened
        split at opened
        · rw [Window.state_freeze] at opened
          split at opened <;> assumption
        · exact opened
      · constructor
        · rintro ((before | rfl) | ⟨rfl, j, mem, out⟩)
          · exact .inl before
          · exact .inr ⟨rfl, k, List.mem_cons_self, idle⟩
          · rw [State.window_idleOutAlone, if_neg (fun same : k = j => fresh (same ▸ mem))] at out
            exact .inr ⟨rfl, j, List.mem_cons_of_mem _ mem, out⟩
        · rintro (before | ⟨rfl, _⟩)
          · exact .inl (.inl before)
          · exact .inl (.inr rfl)
    · rename_i busy
      refine (ih h shut nodup).congr (fun _ => rfl) (fun _ => rfl) (fun _ => Iff.rfl) fun c => ?_
      simp [busy]

section
variable {s : State} {h : SlotId}

/-- While its owner is OPEN the unit keeps its slots through the lease expiry. -/
theorem State.unitSlots_leasedUnit (opened : (s.leasedWindow h h).state = .opened) (k : SlotId) :
    (s.leasedUnit h).unitSlots k = s.unitSlots k := by
  refine State.unitSlots_congr_states (fun j => ?_) k
  rw [State.window_leasedUnit]
  split
  · exact State.leasedWindow_states opened j
  · exact ⟨rfl, rfl⟩

theorem State.window_leasedUnit_self : (s.leasedUnit h).window h = s.leasedWindow h h := by
  rw [State.window_leasedUnit, if_pos (s.mem_unitSlots_self h)]

theorem Window.opened_of_idleOut {w : Window} (idle : w.idleOut = true) : w.state = .opened := by
  simp only [Window.idleOut, Bool.and_eq_true, beq_iff_eq] at idle
  exact idle.1.1

theorem State.window_headedUnit (j : SlotId) :
    (s.headedUnit h).window j
      = if j ∈ s.unitSlots h then
          if (s.leasedWindow h h).idleOut then (s.leasedWindow h j).freeze else s.leasedWindow h j
        else s.window j := by
  rw [State.headedUnit, State.window_leasedUnit_self]
  split
  · rename_i idle
    rw [State.idleOutUnit, State.raise_window, State.freezeUnit,
      State.unitSlots_leasedUnit (Window.opened_of_idleOut idle), State.window_modifyWindows (s.unitSlots_nodup h),
      State.window_leasedUnit]
    split <;> rfl
  · exact State.window_leasedUnit j

theorem State.leasedUnit_shut (k : SlotId) (opened : ((s.leasedUnit h).window k).state = .opened) :
    (s.window k).state = .opened := by
  rw [State.window_leasedUnit] at opened
  split at opened
  · exact State.leasedWindow_shut opened
  · exact opened

theorem State.headedUnit_shut (k : SlotId) (opened : ((s.headedUnit h).window k).state = .opened) :
    (s.window k).state = .opened := by
  rw [State.window_headedUnit] at opened
  split at opened
  · split at opened
    · rw [Window.state_freeze] at opened
      split at opened
      · cases opened
      · exact State.leasedWindow_shut opened
    · exact State.leasedWindow_shut opened
  · exact opened

/-- The window of slot `j` after the tick on the OPEN unit of `h`. -/
def State.openTicked (s : State) (h j : SlotId) : Window :=
  if (s.leasedWindow h h).idleOut || (s.leasedWindow h j).idleOut then (s.leasedWindow h j).freeze
  else s.leasedWindow h j

theorem State.window_tickOpen (j : SlotId) :
    (s.tickOpen h).window j = if j ∈ s.unitSlots h then s.openTicked h j else s.window j := by
  rw [State.tickOpen, State.window_foldl_idleOutAlone (s.unitSlots_nodup h), State.window_headedUnit]
  split
  · unfold Window.idled State.openTicked
    by_cases head : (s.leasedWindow h h).idleOut = true
    · simp [head, Window.idleOut_freeze]
    · simp [head]
  · rfl

theorem State.TicksTo.headedUnit :
    s.TicksTo (s.headedUnit h)
      { s.leaseEffect h with
        raises c := (s.leaseEffect h).raises c ∨ (c = .idle ∧ (s.leasedWindow h h).idleOut = true) } := by
  have leased := State.TicksTo.leasedUnit (s := s) (h := h)
  rw [State.headedUnit, State.window_leasedUnit_self]
  split
  · rename_i idle
    refine ((leased.frozen State.leasedUnit_shut ((s.leasedUnit h).unitSlots_nodup h)).raised .idle).congr
      (fun _ => rfl) (fun _ => rfl) (fun _ => Iff.rfl) fun c => ?_
    simp [idle]
  · rename_i busy
    exact leased.congr (fun _ => rfl) (fun _ => rfl) (fun _ => Iff.rfl) fun c => by simp [busy]

/-- The effect of the tick on an OPEN unit: that of the lease expiry, and IDLE where an idle count is at 0 after it. -/
def State.openEffect (s : State) (h : SlotId) : TickEffect :=
  { s.leaseEffect h with
    raises c := (s.leaseEffect h).raises c
      ∨ (c = .idle ∧ ∃ j ∈ s.unitSlots h, (s.leasedWindow h j).idleOut = true) }

theorem State.TicksTo.tickOpen : s.TicksTo (s.tickOpen h) (s.openEffect h) := by
  have headed := State.TicksTo.headedUnit (s := s) (h := h)
  refine (headed.foldl_idleOutAlone State.headedUnit_shut (s.unitSlots_nodup h)).congr (fun _ => rfl) (fun _ => rfl)
    (fun _ => Iff.rfl) fun c => ?_
  simp only [State.openEffect, or_assoc, ← and_or_left]
  refine or_congr_right (and_congr_right fun _ => ?_)
  by_cases head : (s.leasedWindow h h).idleOut = true
  · exact ⟨fun _ => ⟨h, s.mem_unitSlots_self h, head⟩, fun _ => .inl head⟩
  · simp only [head, Bool.false_eq_true, false_or]
    refine exists_congr fun j => and_congr_right fun mem => ?_
    rw [State.window_headedUnit, if_pos mem, if_neg head]

/-! #### The tick on a DRAINING unit (R67, R124) -/

/-- The drain count of the DRAINING unit of `h` runs out at this tick. -/
def State.drainEnds (s : State) (h : SlotId) : Bool := decide ((s.window h).drainCount ≤ 1)

/-- The window of slot `j` after the tick on the DRAINING unit of `h`. -/
def State.drainTicked (s : State) (h j : SlotId) : Window :=
  if s.drainEnds h then Window.free
  else if j = h then { s.window j with drainCount := (s.window j).drainCount - 1 } else s.window j

/-- The effect of the tick on a DRAINING unit. -/
def State.drainEffect (s : State) (h : SlotId) : TickEffect where
  ends i := s.drainEnds h && (s.entry i).goesWith (s.unitSlots h) true
  flips _ := false
  expires _ := False
  raises c := s.drainEnds h = true ∧ c = .drainForced

theorem State.tickDraining_eq :
    s.tickDraining h
      = if s.drainEnds h then
          (s.modifyWindow h fun w => { w with drainCount := w.drainCount - 1 }).forceDrained h
        else s.modifyWindow h fun w => { w with drainCount := w.drainCount - 1 } := by
  have out : (s.window h).drainCount - 1 = 0 ↔ s.drainEnds h = true := by
    rw [State.drainEnds, decide_eq_true_iff]
    omega
  simp only [State.tickDraining, State.window_modifyWindow_self, out]

theorem State.unitSlots_drainCounted (k : SlotId) :
    (s.modifyWindow h fun w => { w with drainCount := w.drainCount - 1 }).unitSlots k = s.unitSlots k :=
  State.unitSlots_congr_states (fun j => s.states_modifyWindow h ⟨rfl, rfl⟩ j) k

theorem State.window_tickDraining (j : SlotId) :
    (s.tickDraining h).window j = if j ∈ s.unitSlots h then s.drainTicked h j else s.window j := by
  have self := s.mem_unitSlots_self h
  rw [State.tickDraining_eq, State.drainTicked]
  split
  · rw [State.forceDrained, State.raise_window, State.window_goneUnit, State.unitSlots_drainCounted]
    split
    · rfl
    · rename_i out
      rw [State.window_modifyWindow, if_neg fun e => out (by rwa [← e])]
  · rw [State.window_modifyWindow]
    by_cases e : h = j
    · subst e
      simp [self]
    · simp [e, Ne.symm e]

theorem State.TicksTo.tickDraining : s.TicksTo (s.tickDraining h) (s.drainEffect h) := by
  have counted := State.TicksTo.modifyWindow s h fun w => { w with drainCount := w.drainCount - 1 }
  rw [State.tickDraining_eq]
  split
  · rename_i out
    refine (counted.after ((State.TicksTo.goneUnit _ h).raised .drainForced) fun k =>
      (s.states_modifyWindow h ⟨rfl, rfl⟩ k).1).congr (fun i => ?_) (fun _ => rfl) (fun _ => Iff.rfl) fun c => ?_
    · simp [State.unitSlots_drainCounted, State.drainEffect, out]
    · simp [TickEffect.quiet, State.drainEffect, out]
  · rename_i left
    rw [Bool.not_eq_true] at left
    exact counted.congr (fun i => by simp [TickEffect.quiet, State.drainEffect, left]) (fun _ => rfl)
      (fun _ => Iff.rfl) fun c => by simp [TickEffect.quiet, State.drainEffect, left]

/-! #### The tick on a unit, by its state (R64) -/

/-- The window of slot `j` after the tick on the unit of `h`. -/
def State.tickedWindow (s : State) (h j : SlotId) : Window :=
  match (s.window h).state with
  | .armed => (s.window j).openAtTick
  | .opened => s.openTicked h j
  | .draining => s.drainTicked h j
  | .free | .staged | .frozen => s.window j

/-- The effect of the tick on the unit of `h`. -/
def State.unitEffect (s : State) (h : SlotId) : TickEffect :=
  match (s.window h).state with
  | .opened => s.openEffect h
  | .draining => s.drainEffect h
  | .armed | .free | .staged | .frozen => .quiet

theorem State.window_tickUnit (j : SlotId) :
    (s.tickUnit h).window j = if j ∈ s.unitSlots h then s.tickedWindow h j else s.window j := by
  unfold State.tickUnit State.tickedWindow
  cases (s.window h).state with
  | armed => exact State.window_modifyWindows (s.unitSlots_nodup h) s _ j
  | opened => exact State.window_tickOpen j
  | draining => exact State.window_tickDraining j
  | free | staged | frozen => exact (ite_self _).symm

theorem State.TicksTo.tickUnit : s.TicksTo (s.tickUnit h) (s.unitEffect h) := by
  unfold State.tickUnit State.unitEffect
  cases (s.window h).state with
  | armed => exact .modifyWindows (s.unitSlots_nodup h) s _
  | opened => exact .tickOpen
  | draining => exact .tickDraining
  | free | staged | frozen => exact .refl s

end

end Sys2Proof.Machine

/-! ### The Window Table's tick, unit after unit (R64, R89) -/

namespace Sys2Proof.Machine

/-! #### Each slot belongs to one unit -/

/-- A slot of the unit of a window that acts for itself is governed by it. -/
theorem State.owner_of_mem_unitSlots {s : State} {h j : SlotId} (alone : (s.window h).isMember = false)
    (mem : j ∈ s.unitSlots h) : s.owner j = h := by
  unfold State.unitSlots at mem
  split at mem
  · rcases List.mem_cons.mp mem with rfl | above
    · exact State.owner_self alone
    · have := s.membersFrom_ge _ _ above
      exact State.owner_unique (by omega) (fun i low high => State.membersFrom_between above low high) alone
  · rw [List.mem_singleton.mp mem]
    exact State.owner_self alone

/-- A unit whose windows are kept keeps its slots, where no window beyond it becomes a MEMBER. -/
theorem State.unitSlots_congr_unit {s t : State} {h : SlotId} (same : ∀ j ∈ s.unitSlots h, t.window j = s.window j)
    (others : ∀ j, (s.window j).isMember = false → (t.window j).isMember = false) :
    t.unitSlots h = s.unitSlots h := by
  have collected (fuel k : Nat) (kept : ∀ j ∈ s.membersFrom fuel k, t.window j = s.window j) :
      t.membersFrom fuel k = s.membersFrom fuel k := by
    induction fuel generalizing k with
    | zero => rfl
    | succ n ih =>
      unfold State.membersFrom at kept ⊢
      by_cases lt : k < 64
      · simp only [dif_pos lt] at kept ⊢
        by_cases member : (s.window ⟨k, lt⟩).isMember = true
        · rw [if_pos member] at kept ⊢
          rw [if_pos (by rw [kept _ List.mem_cons_self, member]),
            ih _ fun j mem => kept j (List.mem_cons_of_mem _ mem)]
        · rw [if_neg member, if_neg (by simp [others _ (by simpa using member)])]
      · rw [dif_neg lt, dif_neg lt]
  have head := same h (s.mem_unitSlots_self h)
  unfold State.unitSlots at same ⊢
  rw [head]
  split
  · rename_i isHead
    rw [if_pos isHead] at same
    rw [collected _ _ fun j mem => same j (List.mem_cons_of_mem _ mem)]
  · rfl

/-! #### The tick on a unit depends on that unit alone -/

/-- The unit of `h` stands in `t` as it stands in `s`: its slots, their windows, the entries that name them. -/
structure State.SameUnit (s t : State) (h : SlotId) : Prop where
  slots : t.unitSlots h = s.unitSlots h
  window : ∀ j ∈ s.unitSlots h, t.window j = s.window j
  names : ∀ i, (t.entry i).slot = (s.entry i).slot
  entry : ∀ i, (s.entry i).slot ∈ s.unitSlots h → t.entry i = s.entry i
  limit : t.drainLimit = s.drainLimit

section
variable {s t : State} {h j : SlotId}

theorem State.SameUnit.owner (same : s.SameUnit t h) : t.window h = s.window h := same.window h (s.mem_unitSlots_self h)

theorem State.SameUnit.anyHeld (same : s.SameUnit t h) : t.anyHeld (s.unitSlots h) = s.anyHeld (s.unitSlots h) := by
  rw [Bool.eq_iff_iff, State.anyHeld_iff, State.anyHeld_iff]
  refine exists_congr fun i => ?_
  rw [same.names]
  exact and_congr_left fun mem => by rw [same.entry i mem]

theorem State.SameUnit.goesWith (same : s.SameUnit t h) (held : Bool) (i : EntryId) :
    (t.entry i).goesWith (s.unitSlots h) held = (s.entry i).goesWith (s.unitSlots h) held := by
  by_cases mem : (s.entry i).slot ∈ s.unitSlots h
  · rw [same.entry i mem]
  · simp [Entry.goesWith, same.names, mem]

theorem State.SameUnit.leaseEnds (same : s.SameUnit t h) : t.leaseEnds h = s.leaseEnds h := by
  rw [State.leaseEnds, State.leaseEnds, same.owner]

theorem State.SameUnit.leaseActs (same : s.SameUnit t h) (action : ExpiryAction) :
    t.leaseActs h action = s.leaseActs h action := by
  rw [State.leaseActs, State.leaseActs, same.leaseEnds, same.owner]

theorem State.SameUnit.leasedWindow (same : s.SameUnit t h) (mem : j ∈ s.unitSlots h) :
    t.leasedWindow h j = s.leasedWindow h j := by
  rw [State.leasedWindow, State.leasedWindow, same.leaseEnds, same.owner, same.window j mem, same.slots, same.anyHeld,
    same.limit]

theorem State.SameUnit.tickedWindow (same : s.SameUnit t h) (mem : j ∈ s.unitSlots h) :
    t.tickedWindow h j = s.tickedWindow h j := by
  rw [State.tickedWindow, State.tickedWindow, same.owner, same.window j mem, State.openTicked, State.openTicked,
    same.leasedWindow mem, same.leasedWindow (s.mem_unitSlots_self h), State.drainTicked, State.drainTicked,
    State.drainEnds, State.drainEnds, same.owner, same.window j mem]

theorem State.SameUnit.unitEffect (same : s.SameUnit t h) : t.unitEffect h = s.unitEffect h := by
  have idle (c : Cause) : (c = .idle ∧ ∃ j ∈ s.unitSlots h, (t.leasedWindow h j).idleOut = true)
      ↔ (c = .idle ∧ ∃ j ∈ s.unitSlots h, (s.leasedWindow h j).idleOut = true) :=
    and_congr_right fun _ => exists_congr fun j => and_congr_right fun mem => by rw [same.leasedWindow mem]
  simp only [State.unitEffect, State.openEffect, State.leaseEffect, State.drainEffect, State.drainEnds, same.owner,
    same.slots, same.leaseEnds, same.leaseActs, same.goesWith, idle]

end

/-! #### What the tick keeps of a window's kind -/

/-- A window in use is cleared, or keeps its role and is in use still. -/
def Window.KeepsKind (w v : Window) : Prop := v = Window.free ∨ (v.role = w.role ∧ v.state ≠ .free)

theorem Window.KeepsKind.isMember {w v : Window} (h : w.KeepsKind v) (live : w.state ≠ .free) :
    v = Window.free ∨ v.isMember = w.isMember :=
  h.imp_right fun ⟨role, still⟩ => by rw [Bool.eq_iff_iff, Window.isMember_iff, Window.isMember_iff, role]; simp [*]

theorem Window.KeepsKind.freeze {w v : Window} (h : w.KeepsKind v) : w.KeepsKind v.freeze := by
  rcases h with rfl | ⟨role, live⟩
  · exact .inl rfl
  · refine .inr ⟨by rw [Window.freeze_role, role], ?_⟩
    rw [Window.state_freeze]
    split
    · exact fun e => nomatch e
    · exact live

theorem Window.KeepsKind.expire {w v : Window} (h : w.KeepsKind v) (live : v.state ≠ .free) (action : ExpiryAction)
    (owner : Bool) (limit : Nat) (held : Bool) : w.KeepsKind (v.expire action owner limit held) := by
  have role : v.role = w.role := (h.resolve_left fun e => live (e ▸ rfl)).1
  cases action with
  | reload => cases owner <;> exact .inr ⟨role, live⟩
  | freeze => exact h.freeze
  | retire =>
    cases held with
    | false => exact .inl rfl
    | true => exact .inr ⟨role, fun e => nomatch e⟩

section
variable {s : State} {h j : SlotId}

/-- Every slot of a unit in use is in use. -/
theorem State.unitSlots_live (mem : j ∈ s.unitSlots h) (live : (s.window h).state ≠ .free) :
    (s.window j).state ≠ .free := by
  by_cases e : j = h
  · rwa [e]
  · exact (Window.isMember_iff.mp (State.unitSlots_above mem e).1).1

theorem State.leasedWindow_keepsKind (live : (s.window j).state ≠ .free) :
    (s.window j).KeepsKind (s.leasedWindow h j) := by
  have stays : (s.window j).countDown.state ≠ .free := by rwa [(s.window j).countDown_states.1]
  have counted : (s.window j).KeepsKind (s.window j).countDown := .inr ⟨(s.window j).countDown_states.2, stays⟩
  unfold State.leasedWindow
  split
  · exact counted.expire stays _ _ _ _
  · exact counted

theorem State.tickedWindow_keepsKind (live : (s.window j).state ≠ .free) :
    (s.window j).KeepsKind (s.tickedWindow h j) := by
  have leased := State.leasedWindow_keepsKind (h := h) live
  have same : (s.window j).KeepsKind (s.window j) := .inr ⟨rfl, live⟩
  unfold State.tickedWindow
  split
  · refine .inr ⟨(s.window j).openAtTick_role, ?_⟩
    unfold Window.openAtTick
    split
    · exact fun e => nomatch e
    · exact live
  · unfold State.openTicked
    split
    · exact leased.freeze
    · exact leased
  · unfold State.drainTicked
    split
    · exact .inl rfl
    · split <;> exact .inr ⟨rfl, live⟩
  all_goals exact same

/-- A slot of a unit is cleared by the tick, or holds a MEMBER as before. -/
theorem State.tickedWindow_isMember (mem : j ∈ s.unitSlots h) :
    s.tickedWindow h j = Window.free ∨ (s.tickedWindow h j).isMember = (s.window j).isMember := by
  by_cases live : (s.window h).state = .free
  · exact .inr (by simp [State.tickedWindow, live])
  · have live := State.unitSlots_live mem live
    exact (State.tickedWindow_keepsKind live).isMember live

end

/-! #### The units in turn -/

/-- The tick's work at one slot: its unit is handled, where it is no MEMBER. -/
def State.tickSlot (s : State) (k : SlotId) : State := if (s.window k).isMember then s else s.tickUnit k

/-- The effect of the tick's work at one slot. -/
def State.slotEffect (s : State) (k : SlotId) : TickEffect :=
  if (s.window k).isMember then .quiet else s.unitEffect k

/-- The effects of several slots together. -/
def TickEffect.sum (f : SlotId → TickEffect) : List SlotId → TickEffect
  | [] => .quiet
  | k :: ks => (TickEffect.sum f ks).plus (f k)

theorem State.unitEffect_ends {s : State} {h : SlotId} {i : EntryId} (ends : (s.unitEffect h).ends i = true) :
    (s.entry i).slot ∈ s.unitSlots h := by
  unfold State.unitEffect at ends
  split at ends
  · simp only [State.openEffect, State.leaseEffect, Bool.and_eq_true, Entry.goesWith, List.contains_iff_mem] at ends
    exact ends.2.2
  · simp only [State.drainEffect, Bool.and_eq_true, Entry.goesWith, List.contains_iff_mem] at ends
    exact ends.2.2
  all_goals cases ends

theorem State.unitEffect_flips {s : State} {h k : SlotId} (flips : (s.unitEffect h).flips k = true) : k = h := by
  unfold State.unitEffect at flips
  split at flips
  · simp only [State.openEffect, State.leaseEffect, Bool.and_eq_true, beq_iff_eq] at flips
    exact flips.2
  all_goals cases flips

theorem State.slotEffect_flips {s : State} {h k : SlotId} (flips : (s.slotEffect h).flips k = true) : k = h := by
  unfold State.slotEffect at flips
  split at flips
  · cases flips
  · exact State.unitEffect_flips flips

theorem State.unitEffect_expires {s : State} {h k : SlotId} (expires : (s.unitEffect h).expires k) : k = h := by
  unfold State.unitEffect at expires
  split at expires
  · exact expires.2
  all_goals cases expires

section
variable {f : SlotId → TickEffect} {ks : List SlotId}

theorem TickEffect.sum_ends {i : EntryId} : (TickEffect.sum f ks).ends i = true ↔ ∃ k ∈ ks, (f k).ends i = true := by
  induction ks with
  | nil => simp [TickEffect.sum, TickEffect.quiet]
  | cons k ks ih => simp [TickEffect.sum, TickEffect.plus, ih, or_comm]

theorem TickEffect.sum_flips {j : SlotId} : (TickEffect.sum f ks).flips j = true ↔ ∃ k ∈ ks, (f k).flips j = true := by
  induction ks with
  | nil => simp [TickEffect.sum, TickEffect.quiet]
  | cons k ks ih => simp [TickEffect.sum, TickEffect.plus, ih, or_comm]

theorem TickEffect.sum_expires {j : SlotId} : (TickEffect.sum f ks).expires j ↔ ∃ k ∈ ks, (f k).expires j := by
  induction ks with
  | nil => simp [TickEffect.sum, TickEffect.quiet]
  | cons k ks ih => simp [TickEffect.sum, TickEffect.plus, ih, or_comm]

theorem TickEffect.sum_raises {c : Cause} : (TickEffect.sum f ks).raises c ↔ ∃ k ∈ ks, (f k).raises c := by
  induction ks with
  | nil => simp [TickEffect.sum, TickEffect.quiet]
  | cons k ks ih => simp [TickEffect.sum, TickEffect.plus, ih, or_comm]

end

/-- The slots of `done` have been handled: their units are ticked, and all else is as in `s`. -/
structure State.TickedAt (s t : State) (done : List SlotId) : Prop where
  effect : s.TicksTo t (.sum s.slotEffect done)
  ticked : ∀ h ∈ done, (s.window h).isMember = false → ∀ j ∈ s.unitSlots h, t.window j = s.tickedWindow h j
  kept : ∀ j, (∀ h ∈ done, (s.window h).isMember = false → j ∉ s.unitSlots h) → t.window j = s.window j

section
variable {s t : State} {done : List SlotId} {k : SlotId}

/-- A slot is cleared, or holds a MEMBER as before. -/
theorem State.TickedAt.isMember (h : s.TickedAt t done) (j : SlotId) :
    t.window j = Window.free ∨ (t.window j).isMember = (s.window j).isMember := by
  by_cases handled : ∃ k ∈ done, (s.window k).isMember = false ∧ j ∈ s.unitSlots k
  · obtain ⟨k, mem, alone, inside⟩ := handled
    rw [h.ticked k mem alone j inside]
    exact State.tickedWindow_isMember inside
  · rw [h.kept j fun k mem alone inside => handled ⟨k, mem, alone, inside⟩]
    exact .inr rfl

/-- No entry that ends names a unit yet to be handled. -/
theorem State.sum_ends_fresh (fresh : k ∉ done) (alone : (s.window k).isMember = false) {i : EntryId}
    (inside : (s.entry i).slot ∈ s.unitSlots k) : (TickEffect.sum s.slotEffect done).ends i = false := by
  rw [← Bool.not_eq_true, TickEffect.sum_ends]
  rintro ⟨h, mem, ends⟩
  unfold State.slotEffect at ends
  split at ends
  · cases ends
  · rename_i acts
    have there := State.owner_of_mem_unitSlots (by simpa using acts) (State.unitEffect_ends ends)
    rw [State.owner_of_mem_unitSlots alone inside] at there
    exact fresh (there ▸ mem)

/-- A unit yet to be handled stands as it was. -/
theorem State.TickedAt.sameUnit (h : s.TickedAt t done) (fresh : k ∉ done) (alone : (s.window k).isMember = false) :
    s.SameUnit t k := by
  have windows (j : SlotId) (mem : j ∈ s.unitSlots k) : t.window j = s.window j := by
    refine h.kept j fun o handled acts inside => fresh ?_
    rwa [← State.owner_of_mem_unitSlots alone mem, State.owner_of_mem_unitSlots acts inside]
  refine ⟨State.unitSlots_congr_unit windows fun j single => ?_, windows, fun i => ?_, fun i mem => ?_, ?_⟩
  · rcases h.isMember j with cleared | same
    · rw [cleared]
      rfl
    · rw [same, single]
  · rw [h.effect.entry]
    split <;> rfl
  · rw [h.effect.entry, State.sum_ends_fresh fresh alone mem]
    rfl
  · rw [h.effect.frame]

theorem State.TickedAt.step (h : s.TickedAt t done) (fresh : k ∉ done) :
    s.TickedAt (t.tickSlot k) (k :: done) := by
  by_cases member : (s.window k).isMember = true
  · have still : t.tickSlot k = t := by
      unfold State.tickSlot
      rcases h.isMember k with cleared | same
      · simp [cleared, State.tickUnit, Window.free]
      · rw [same, if_pos member]
    have quiet : TickEffect.sum s.slotEffect (k :: done) = (TickEffect.sum s.slotEffect done).plus .quiet := by
      rw [TickEffect.sum, State.slotEffect, if_pos member]
    rw [still]
    refine ⟨?_, fun o mem acts => ?_, fun j out => ?_⟩
    · exact quiet ▸ h.effect.congr (fun _ => (Bool.or_false _).symm) (fun _ => (Bool.or_false _).symm)
        (fun _ => (or_iff_left not_false).symm) fun _ => (or_iff_left not_false).symm
    · refine h.ticked o ((List.mem_cons.mp mem).resolve_left fun e => ?_) acts
      rw [e, member] at acts
      cases acts
    · exact h.kept j fun o mem => out o (List.mem_cons_of_mem _ mem)
  · have alone : (s.window k).isMember = false := by simpa using member
    have same := h.sameUnit fresh alone
    have acts : t.tickSlot k = t.tickUnit k := by
      rw [State.tickSlot, same.owner, if_neg member]
    have effect : t.TicksTo (t.tickUnit k) (s.slotEffect k) := by
      rw [State.slotEffect, if_neg member, ← same.unitEffect]
      exact .tickUnit
    have window (j : SlotId) :
        (t.tickUnit k).window j = if j ∈ s.unitSlots k then s.tickedWindow k j else t.window j := by
      rw [State.window_tickUnit, same.slots]
      split
      · rename_i mem
        exact same.tickedWindow mem
      · rfl
    have disjoint {o j : SlotId} (other : o ∈ done) (single : (s.window o).isMember = false) (mem : j ∈ s.unitSlots o) :
        j ∉ s.unitSlots k := fun here => fresh (by
      rwa [← State.owner_of_mem_unitSlots alone here, State.owner_of_mem_unitSlots single mem])
    rw [acts]
    refine ⟨h.effect.trans effect (fun i ends => ?_) fun j => ?_, fun o mem single j inside => ?_, fun j out => ?_⟩
    · rw [← Bool.not_eq_true]
      intro again
      rw [State.slotEffect, if_neg member] at again
      rw [State.sum_ends_fresh fresh alone (State.unitEffect_ends again)] at ends
      cases ends
    · by_cases mem : j ∈ s.unitSlots k
      · refine .inl ⟨by rw [same.window j mem], fun before => ?_⟩
        rw [← Bool.not_eq_true]
        intro again
        obtain ⟨o, handled, flipped⟩ := TickEffect.sum_flips.mp before
        rw [State.slotEffect_flips again] at flipped
        exact fresh (State.slotEffect_flips flipped ▸ handled)
      · refine .inr ⟨by rw [window, if_neg mem], ?_⟩
        rw [← Bool.not_eq_true]
        intro flips
        exact mem (State.slotEffect_flips flips ▸ s.mem_unitSlots_self k)
    · rw [window]
      rcases List.mem_cons.mp mem with rfl | before
      · rw [if_pos inside]
      · rw [if_neg (disjoint before single inside), h.ticked o before single j inside]
    · rw [window, if_neg (out k List.mem_cons_self alone), h.kept j fun o mem => out o (List.mem_cons_of_mem _ mem)]

end

theorem State.TickedAt.refl (s : State) : s.TickedAt s [] :=
  ⟨.refl s, fun _ mem => (List.not_mem_nil mem).elim, fun _ _ => rfl⟩

theorem State.TickedAt.foldl {s t : State} {done : List SlotId} (ks : List SlotId) (h : s.TickedAt t done)
    (nodup : ks.Nodup) (fresh : ∀ k ∈ ks, k ∉ done) : s.TickedAt (ks.foldl State.tickSlot t) (ks.reverse ++ done) := by
  induction ks generalizing t done with
  | nil => exact h
  | cons k ks ih =>
    obtain ⟨new, nodup⟩ := List.nodup_cons.mp nodup
    have rest := ih (h.step (fresh k List.mem_cons_self)) nodup fun j mem handled =>
      (List.mem_cons.mp handled).elim (fun e => new (e ▸ mem)) (fresh j (List.mem_cons_of_mem _ mem))
    rwa [List.reverse_cons, List.append_assoc]

/-! #### The whole tick -/

/-- The tick handed over is taken (R60). -/
def State.tickTaken (s : State) : State :=
  { s with timebase := { s.timebase with windowTicks := s.timebase.windowTicks - 1 } }

/-- The effect of the tick on the whole part, besides the windows. -/
def State.tickEffect (s : State) : TickEffect := .sum s.slotEffect (List.finRange 64).reverse

theorem State.tickTaken_sameUnit (s : State) (h : SlotId) : s.SameUnit s.tickTaken h where
  slots := State.unitSlots_congr (fun _ => rfl) h
  window _ _ := rfl
  names _ := rfl
  entry _ _ := rfl
  limit := rfl

theorem State.windowTick_tickedAt (s : State) : s.tickTaken.TickedAt s.windowTick (List.finRange 64).reverse := by
  have all := (State.TickedAt.refl s.tickTaken).foldl (List.finRange 64) (List.nodup_finRange 64)
    fun _ _ => List.not_mem_nil
  rwa [List.append_nil] at all

section
variable {s : State} {h j : SlotId}

theorem State.TicksTo.windowTick : s.tickTaken.TicksTo s.windowTick s.tickEffect := by
  have same : s.tickTaken.slotEffect = s.slotEffect := by
    funext k
    show (if (s.window k).isMember then _ else _) = if (s.window k).isMember then _ else _
    rw [(s.tickTaken_sameUnit k).unitEffect]
  have effect := s.windowTick_tickedAt.effect
  rwa [same] at effect

/-- The tick leaves each slot of a unit as the tick on that unit does. -/
theorem State.window_windowTick (alone : (s.window h).isMember = false) (mem : j ∈ s.unitSlots h) :
    s.windowTick.window j = s.tickedWindow h j := by
  have same := s.tickTaken_sameUnit h
  rw [s.windowTick_tickedAt.ticked h (List.mem_reverse.mpr (List.mem_finRange h)) alone j (same.slots ▸ mem),
    same.tickedWindow mem]

theorem State.window_windowTick_self (alone : (s.window h).isMember = false) :
    s.windowTick.window h = s.tickedWindow h h :=
  State.window_windowTick alone (s.mem_unitSlots_self h)

/-- An entry that names a unit ends as the tick on that unit says. -/
theorem State.tickEffect_ends {i : EntryId} (alone : (s.window h).isMember = false)
    (mem : (s.entry i).slot ∈ s.unitSlots h) : s.tickEffect.ends i = (s.unitEffect h).ends i := by
  rw [Bool.eq_iff_iff, State.tickEffect, TickEffect.sum_ends]
  constructor
  · rintro ⟨k, _, ends⟩
    unfold State.slotEffect at ends
    split at ends
    · cases ends
    · rename_i acts
      have here := State.owner_of_mem_unitSlots (by simpa using acts) (State.unitEffect_ends ends)
      rwa [← here, State.owner_of_mem_unitSlots alone mem] at ends
  · intro ends
    exact ⟨h, by simp, by rwa [State.slotEffect, alone]⟩

theorem State.tickEffect_flips : s.tickEffect.flips h = (s.slotEffect h).flips h := by
  rw [Bool.eq_iff_iff, State.tickEffect, TickEffect.sum_flips]
  constructor
  · rintro ⟨k, _, flips⟩
    rwa [← State.slotEffect_flips flips] at flips
  · exact fun flips => ⟨h, by simp, flips⟩

theorem State.tickEffect_expires :
    s.tickEffect.expires h ↔ (s.window h).isMember = false ∧ s.leaseEnds h = true := by
  rw [State.tickEffect, TickEffect.sum_expires]
  constructor
  · rintro ⟨k, _, expires⟩
    unfold State.slotEffect at expires
    split at expires
    · cases expires
    · rename_i acts
      rw [State.unitEffect_expires expires]
      refine ⟨by simpa using acts, ?_⟩
      unfold State.unitEffect at expires
      split at expires
      · exact expires.1
      all_goals cases expires
  · rintro ⟨alone, ends⟩
    refine ⟨h, by simp, ?_⟩
    rw [State.slotEffect, alone, State.unitEffect, (State.leaseEnds_iff.mp ends).1]
    exact ⟨ends, rfl⟩

theorem State.tickEffect_raises {c : Cause} :
    s.tickEffect.raises c ↔ ∃ k, (s.window k).isMember = false ∧ (s.unitEffect k).raises c := by
  rw [State.tickEffect, TickEffect.sum_raises]
  refine exists_congr fun k => ?_
  rw [State.slotEffect]
  split <;> simp_all [TickEffect.quiet]

end

end Sys2Proof.Machine

/-! ### The Window Table's tick, case by case (R64 to R73, R85, R88, R89, R91, R124) -/

namespace Sys2Proof.Machine

/-! #### The counts of a window -/

theorem Window.countDown_eq (w : Window) :
    w.countDown
      = if w.state = .opened then
          { w with
            leaseCount := if w.leaseMode = .timed then w.leaseCount - 1 else w.leaseCount
            idleCount := if w.idleLimit = none then w.idleCount else w.idleCount - 1 }
        else w := by
  cases limit : w.idleLimit <;> simp [Window.countDown, limit]

theorem Window.countDown_leaseReload (w : Window) : w.countDown.leaseReload = w.leaseReload := by
  unfold Window.countDown
  split <;> rfl

theorem Window.countDown_drainCount (w : Window) : w.countDown.drainCount = w.drainCount := by
  unfold Window.countDown
  split <;> rfl

theorem Window.freeze_opened {w : Window} (opened : w.state = .opened) : w.freeze = { w with state := .frozen } :=
  if_pos opened

/-! #### The window of a slot after the tick -/

section
variable {s : State} {h j : SlotId}

/-- The tick takes the idle count of slot `j`, or of the owner `h` of its lease, to 0. -/
def State.idlesOut (s : State) (h j : SlotId) : Bool :=
  (s.window h).countDown.idleOut || (s.window j).countDown.idleOut

theorem State.leaseActs_iff {action : ExpiryAction} :
    s.leaseActs h action = true ↔ s.leaseEnds h = true ∧ (s.window h).expiryAction = action := by
  simp [State.leaseActs]

/-- An expiry action other than RELOAD leaves no window OPEN, so no idle count to run out. -/
theorem Window.idleOut_expire (action : ExpiryAction) (owner : Bool) (limit : Nat) (held : Bool) (w : Window) :
    (w.expire action owner limit held).idleOut = (action == .reload && w.idleOut) := by
  cases action with
  | reload => cases owner <;> rfl
  | freeze => exact Window.idleOut_freeze w
  | retire => cases held <;> rfl

/-- An idle count at 0 is found after the lease expiry where that has not frozen or retired the unit. -/
theorem State.idleOut_leasedWindow :
    (s.leasedWindow h j).idleOut = true
      ↔ s.leaseActs h .freeze = false ∧ s.leaseActs h .retire = false ∧ (s.window j).countDown.idleOut = true := by
  unfold State.leasedWindow State.leaseActs
  cases ends : s.leaseEnds h with
  | false => simp
  | true =>
    rw [if_pos rfl, Window.idleOut_expire]
    cases (s.window h).expiryAction with
    | reload | freeze | retire => simp

theorem State.tickedWindow_still
    (still : (s.window h).state = .free ∨ (s.window h).state = .staged ∨ (s.window h).state = .frozen) :
    s.tickedWindow h j = s.window j := by
  rcases still with state | state | state <;> rw [State.tickedWindow, state]

theorem State.tickedWindow_opened (opened : (s.window h).state = .opened) : s.tickedWindow h j = s.openTicked h j := by
  rw [State.tickedWindow, opened]

theorem State.tickedWindow_draining (drains : (s.window h).state = .draining) :
    s.tickedWindow h j = s.drainTicked h j := by
  rw [State.tickedWindow, drains]

theorem State.tickedWindow_armed (armed : (s.window h).state = .armed) :
    s.tickedWindow h j = (s.window j).openAtTick := by
  rw [State.tickedWindow, armed]

theorem State.openTicked_idling (spared : s.leaseActs h .freeze = false ∧ s.leaseActs h .retire = false) :
    s.openTicked h j = if s.idlesOut h j then (s.leasedWindow h j).freeze else s.leasedWindow h j := by
  have found (k : SlotId) : (s.leasedWindow h k).idleOut = (s.window k).countDown.idleOut := by
    rw [Bool.eq_iff_iff, State.idleOut_leasedWindow, and_iff_right spared.1, and_iff_right spared.2]
  rw [State.openTicked, found, found, State.idlesOut]

theorem State.openTicked_acted (acted : s.leaseActs h .freeze = true ∨ s.leaseActs h .retire = true) :
    s.openTicked h j = s.leasedWindow h j := by
  have quiet (k : SlotId) : (s.leasedWindow h k).idleOut = false := by
    rw [← Bool.not_eq_true, State.idleOut_leasedWindow]
    rintro ⟨thawed, kept, _⟩
    simp [thawed, kept] at acted
  rw [State.openTicked, quiet, quiet]
  rfl

theorem State.openTicked_counted (kept : s.leaseEnds h = false) :
    s.openTicked h j
      = if s.idlesOut h j then (s.window j).countDown.freeze else (s.window j).countDown := by
  rw [State.openTicked_idling (by simp [State.leaseActs, kept]), State.leasedWindow, kept]
  rfl

theorem State.openTicked_reload (acts : s.leaseActs h .reload = true) :
    s.openTicked h j
      = if s.idlesOut h j then
          (if j = h then { (s.window j).countDown with leaseCount := (s.window j).leaseReload }
            else (s.window j).countDown).freeze
        else if j = h then { (s.window j).countDown with leaseCount := (s.window j).leaseReload }
        else (s.window j).countDown := by
  obtain ⟨ends, action⟩ := State.leaseActs_iff.mp acts
  rw [State.openTicked_idling (by simp [State.leaseActs, action]), State.leasedWindow, if_pos ends, action,
    Window.expire]
  simp only [decide_eq_true_iff, Window.countDown_leaseReload]

theorem State.openTicked_freeze (acts : s.leaseActs h .freeze = true) :
    s.openTicked h j = (s.window j).countDown.freeze := by
  obtain ⟨ends, action⟩ := State.leaseActs_iff.mp acts
  rw [State.openTicked_acted (.inl acts), State.leasedWindow, if_pos ends, action]
  rfl

theorem State.openTicked_retire (acts : s.leaseActs h .retire = true) :
    s.openTicked h j
      = if s.anyHeld (s.unitSlots h) then
          { (s.window j).countDown with
            state := .draining, drainCount := if j = h then s.drainLimit else (s.window j).drainCount }
        else Window.free := by
  obtain ⟨ends, action⟩ := State.leaseActs_iff.mp acts
  rw [State.openTicked_acted (.inr acts), State.leasedWindow, if_pos ends, action, Window.expire]
  simp only [decide_eq_true_iff, Window.countDown_drainCount]

/-! #### The entries, the causes and the gates after the tick -/

theorem State.unitEffect_ends_iff {i : EntryId} :
    (s.unitEffect h).ends i = true
      ↔ (s.leaseActs h .retire = true ∧ (s.entry i).goesWith (s.unitSlots h) false = true)
        ∨ (((s.window h).state = .draining ∧ (s.window h).drainCount ≤ 1)
          ∧ (s.entry i).goesWith (s.unitSlots h) true = true) := by
  have spared (other : (s.window h).state ≠ .opened) : s.leaseActs h .retire = false := by
    rw [← Bool.not_eq_true, State.leaseActs_iff, State.leaseEnds_iff]
    exact fun acts => other acts.1.1
  unfold State.unitEffect
  cases state : (s.window h).state with
  | opened => simp [State.openEffect, State.leaseEffect]
  | draining => simp [State.drainEffect, State.drainEnds, spared (by simp [state])]
  | free | staged | armed | frozen => simp [TickEffect.quiet, spared (by simp [state])]

theorem State.unitEffect_flips_iff : (s.unitEffect h).flips h = true ↔ s.leaseActs h .reload = true := by
  unfold State.unitEffect
  cases state : (s.window h).state with
  | opened => simp [State.openEffect, State.leaseEffect]
  | draining | free | staged | armed | frozen =>
    simp [TickEffect.quiet, State.drainEffect, State.leaseActs, State.leaseEnds_iff, state]

theorem State.unitEffect_raises_iff {c : Cause} :
    (s.unitEffect h).raises c
      ↔ (s.leaseEnds h = true ∧ c = .expired)
        ∨ (c = .idle ∧ (s.window h).state = .opened ∧ ∃ j ∈ s.unitSlots h, (s.leasedWindow h j).idleOut = true)
        ∨ (((s.window h).state = .draining ∧ (s.window h).drainCount ≤ 1) ∧ c = .drainForced) := by
  unfold State.unitEffect
  cases state : (s.window h).state with
  | opened => simp [State.openEffect, State.leaseEffect]
  | draining => simp [State.drainEffect, State.drainEnds, State.leaseEnds_iff, state]
  | free | staged | armed | frozen => simp [TickEffect.quiet, State.leaseEnds_iff, state]

/-- A flip is undone by the report that the slot has left OPEN. -/
theorem Gate.report_flip {k : SlotId} {new : WState} (x : Gate) (leaves : new ≠ .opened) :
    (x.flip k).report k .opened new = x.report k .opened new := by
  by_cases flips : x.binding = some k ∧ x.mode = .toggle
  · simp [Gate.flip, Gate.report, flips, leaves.symm]
  · rw [Gate.flip, if_neg flips]

/-- A gate after the tick: a TOGGLE gate of a slot whose lease is reloaded, and which is still OPEN, flips; any other
follows its slot. -/
theorem State.gate_windowTick {g : GateId} {k : SlotId} (bound : (s.gate g).binding = some k) :
    s.windowTick.gate g
      = if ((s.window k).isMember = false ∧ s.leaseActs k .reload = true)
            ∧ (s.windowTick.window k).state = .opened ∧ (s.gate g).mode = .toggle then
          { s.gate g with active := !(s.gate g).active }
        else (s.gate g).report k (s.window k).state (s.windowTick.window k).state := by
  have flipped : s.tickEffect.flips k = true ↔ (s.window k).isMember = false ∧ s.leaseActs k .reload = true := by
    rw [State.tickEffect_flips, State.slotEffect]
    split
    · simp_all [TickEffect.quiet]
    · simp_all [State.unitEffect_flips_iff]
  rw [State.TicksTo.windowTick.bound g k bound]
  show (if s.tickEffect.flips k then (s.gate g).flip k else s.gate g).report k (s.window k).state _ = _
  by_cases flips : s.tickEffect.flips k = true
  · have acts := flipped.mp flips
    have opened := (State.leaseEnds_iff.mp (State.leaseActs_iff.mp acts.2).1).1
    rw [if_pos flips, opened]
    by_cases stays : (s.windowTick.window k).state = .opened
    · rw [stays, Gate.report_self, Gate.report_self, Gate.flip]
      simp [bound, acts]
    · rw [Gate.report_flip _ stays, if_neg (by simp [stays])]
  · rw [if_neg flips, if_neg fun all => flips (flipped.mpr all.1)]

/-- The entries of a unit that end at the tick: the WAITING ones where its lease retires it, and the HELD ones too where
its drain is forced. -/
theorem State.tickEffect_ends_iff (alone : (s.window h).isMember = false) {i : EntryId}
    (mem : (s.entry i).slot ∈ s.unitSlots h) :
    s.tickEffect.ends i = true
      ↔ (s.leaseActs h .retire = true ∧ (s.entry i).state = .waiting)
        ∨ (((s.window h).state = .draining ∧ (s.window h).drainCount ≤ 1)
          ∧ ((s.entry i).state = .waiting ∨ (s.entry i).state = .held)) := by
  rw [State.tickEffect_ends alone mem, State.unitEffect_ends_iff]
  simp [Entry.goesWith, mem]

theorem State.entry_windowTick (i : EntryId) :
    s.windowTick.entry i = if s.tickEffect.ends i then (s.entry i).gone .windowGone else s.entry i :=
  State.TicksTo.windowTick.entry i

theorem State.cause_windowTick (c : Cause) :
    s.windowTick.attn.causes.getLsbD c.bit = true ↔ s.attn.causes.getLsbD c.bit = true
      ∨ ∃ h, (s.window h).isMember = false
        ∧ ((s.leaseEnds h = true ∧ c = .expired)
          ∨ (c = .idle ∧ (s.window h).state = .opened ∧ ∃ j ∈ s.unitSlots h, (s.leasedWindow h j).idleOut = true)
          ∨ (((s.window h).state = .draining ∧ (s.window h).drainCount ≤ 1) ∧ c = .drainForced)) := by
  refine (State.TicksTo.windowTick.cause c).trans (or_congr_right (State.tickEffect_raises.trans ?_))
  exact exists_congr fun h => and_congr_right fun _ => State.unitEffect_raises_iff

theorem State.expired_windowTick (k : SlotId) :
    s.windowTick.attn.expired.getLsbD k.val = true ↔ s.attn.expired.getLsbD k.val = true
      ∨ ((s.window k).isMember = false ∧ s.leaseEnds k = true) :=
  (State.TicksTo.windowTick.expired k).trans (or_congr_right State.tickEffect_expires)

/-- A window whose lease is reloaded stays OPEN unless its idle count runs out at the same tick. -/
theorem State.opened_windowTick_reload (alone : (s.window h).isMember = false) (acts : s.leaseActs h .reload = true) :
    (s.windowTick.window h).state = .opened ↔ ¬ s.idlesOut h h = true := by
  have opened := (State.leaseEnds_iff.mp (State.leaseActs_iff.mp acts).1).1
  rw [State.window_windowTick_self alone, State.tickedWindow_opened opened, State.openTicked_reload acts, if_pos rfl]
  split
  · rename_i idle
    simp [idle, Window.state_freeze, (s.window h).countDown_states, opened]
  · rename_i busy
    simp [busy, (s.window h).countDown_states, opened]

theorem exec_windowTick (up : s.rstLow = false) (waits : 0 < s.timebase.windowTicks) :
    exec .windowTick s = .next s.windowTick :=
  takeEvent_can up (decide_eq_true waits)

end

/-! #### A part whose groups are whole (R89) -/

section
variable {s : State} (groups : GroupsAgree s)
include groups

theorem GroupsAgree.mem_unitSlots_owner (k : SlotId) : k ∈ s.unitSlots (s.owner k) :=
  (groups.mem_unitSlots_iff (s.owner_owner k)).mpr rfl

theorem GroupsAgree.window_windowTick (k : SlotId) : s.windowTick.window k = s.tickedWindow (s.owner k) k :=
  State.window_windowTick (groups.owner_alone k) (groups.mem_unitSlots_owner k)

/-- A slot that holds no MEMBER is one that owns its lease. -/
theorem GroupsAgree.isMember_iff_owner (k : SlotId) : (s.window k).isMember = false ↔ k = s.owner k :=
  ⟨fun alone => (State.owner_self alone).symm, fun own => own ▸ groups.owner_alone k⟩

/-- A fact about the windows that act for themselves is one about the owners of the slots. -/
theorem GroupsAgree.exists_owner {P : SlotId → Prop} :
    (∃ h, (s.window h).isMember = false ∧ P h) ↔ ∃ k, P (s.owner k) :=
  ⟨fun ⟨h, alone, fact⟩ => ⟨h, by rwa [State.owner_self alone]⟩,
    fun ⟨k, fact⟩ => ⟨s.owner k, groups.owner_alone k, fact⟩⟩

theorem GroupsAgree.idle_windowTick :
    s.windowTick.attn.causes.getLsbD 1 = true ↔ s.attn.causes.getLsbD 1 = true
      ∨ ∃ k, (s.window (s.owner k)).state = .opened ∧ (s.leasedWindow (s.owner k) k).idleOut = true := by
  refine (State.cause_windowTick .idle).trans (or_congr_right ?_)
  constructor
  · rintro ⟨h, alone, ⟨_, other⟩ | ⟨_, opened, k, mem, idle⟩ | ⟨_, other⟩⟩
    · cases other
    · have own := State.owner_of_mem_unitSlots alone mem
      exact ⟨k, by rwa [own], by rwa [own]⟩
    · cases other
  · rintro ⟨k, opened, idle⟩
    exact ⟨s.owner k, groups.owner_alone k, .inr (.inl ⟨rfl, opened, k, groups.mem_unitSlots_owner k, idle⟩)⟩

end

/-- Settles O57: each clause is the rule for its case of the tick, with the owner of the slot's lease. -/
theorem windowTickHandlesGroups : Obligations.WindowTickHandlesGroups := by
  intro s up waits groups w unit timed acts held idle idles forced counted frozen ends
  have timed_iff (k : SlotId) : timed k ↔ s.leaseEnds (s.owner k) = true := State.leaseEnds_iff.symm
  have acts_iff (k : SlotId) (a : ExpiryAction) : acts k a ↔ s.leaseActs (s.owner k) a = true :=
    (and_congr_left' (timed_iff k)).trans State.leaseActs_iff.symm
  have held_iff (k : SlotId) : held k ↔ s.anyHeld (s.unitSlots (s.owner k)) = true := State.anyHeld_iff.symm
  have idle_iff (k : SlotId) : idle k ↔ (s.window k).countDown.idleOut = true := Window.idleOut_countDown.symm
  have counted_eq (k : SlotId) : counted k = (s.window k).countDown := (Window.countDown_eq _).symm
  have idles_iff (k : SlotId) (opened : (w k).state = .opened) (frees : ¬ acts k .retire) (thaws : ¬ acts k .freeze) :
      idles k ↔ s.idlesOut (s.owner k) k = true := by
    rw [State.idlesOut, Bool.or_eq_true, ← idle_iff, ← idle_iff]
    exact ⟨fun all => all.2.2.2, fun idle => ⟨opened, frees, thaws, idle⟩⟩
  have idles_reload (k : SlotId) (reload : acts k .reload) : idles k ↔ s.idlesOut (s.owner k) k = true :=
    idles_iff k reload.1.1 (fun retire => by cases reload.2.symm.trans retire.2)
      fun freeze => by cases reload.2.symm.trans freeze.2
  have openTicked (k : SlotId) (opened : (w k).state = .opened) :
      s.windowTick.window k = s.openTicked (s.owner k) k :=
    (groups.window_windowTick k).trans (State.tickedWindow_opened opened)
  have counts (k : SlotId) (opened : (w k).state = .opened) (runs : ¬ timed k) :
      s.windowTick.window k = if s.idlesOut (s.owner k) k then frozen (counted k) else counted k := by
    rw [timed_iff, Bool.not_eq_true] at runs
    rw [openTicked k opened, State.openTicked_counted runs, counted_eq]
    rfl
  have ends_eq (i : EntryId) : ends i = s.tickEffect.ends i := by
    rw [Bool.eq_iff_iff, State.tickEffect_ends_iff (groups.owner_alone _) (groups.mem_unitSlots_owner _),
      State.leaseActs_iff, State.leaseEnds_iff]
    simp [ends, w, and_assoc]
  refine ⟨s.windowTick, exec_windowTick up waits, fun k still => ?_, fun k opened runs busy => ?_,
    fun k opened runs idle => ?_, fun k reload => ?_, fun k freeze => ?_, fun k retire => ?_, fun k drains => ?_,
    fun i => ?_, fun a => ?_, ?_, ?_, ?_, fun k => ?_, fun g unbound => ?_, fun g k bound => ?_⟩
  · rw [groups.window_windowTick, State.tickedWindow_still still]
  · rw [idles_iff k opened (fun acts => runs acts.1) fun acts => runs acts.1] at busy
    rw [counts k opened runs, if_neg busy]
  · rw [idles_iff k opened (fun acts => runs acts.1) fun acts => runs acts.1] at idle
    rw [counts k opened runs, if_pos idle]
  · intro reloaded
    have window : s.windowTick.window k = if s.idlesOut (s.owner k) k then frozen reloaded else reloaded := by
      rw [openTicked k reload.1.1, State.openTicked_reload ((acts_iff k .reload).mp reload), ← counted_eq]
      rfl
    rw [window, idles_reload k reload]
    exact ⟨fun idle => if_pos idle, fun busy => if_neg busy⟩
  · rw [openTicked k freeze.1.1, State.openTicked_freeze ((acts_iff k .freeze).mp freeze), ← counted_eq]
    rfl
  · rw [openTicked k retire.1.1, State.openTicked_retire ((acts_iff k .retire).mp retire), ← counted_eq, held_iff]
    exact ⟨fun held => if_pos held, fun free => if_neg free⟩
  · rw [groups.window_windowTick, State.tickedWindow_draining drains, State.drainTicked, State.drainEnds]
    exact ⟨fun out => if_pos (decide_eq_true out.2), fun left => if_neg fun out => left ⟨drains, of_decide_eq_true out⟩⟩
  · rw [State.entry_windowTick, ends_eq]
  · simp only [ends_eq]
    exact State.TicksTo.windowTick.agent a
  · refine (State.cause_windowTick .expired).trans (or_congr_right ?_)
    simp only [timed_iff, ← groups.exists_owner (P := fun h => s.leaseEnds h = true)]
    simp
  · refine groups.idle_windowTick.trans (or_congr_right (exists_congr fun k => and_congr_right fun _ => ?_))
    rw [State.idleOut_leasedWindow, acts_iff, acts_iff, idle_iff, Bool.not_eq_true, Bool.not_eq_true]
    exact and_left_comm
  · refine (State.cause_windowTick .drainForced).trans (or_congr_right ?_)
    simp only [forced, w,
      ← groups.exists_owner (P := fun h => (s.window h).state = .draining ∧ (s.window h).drainCount ≤ 1)]
    simp
  · rw [State.expired_windowTick, timed_iff]
    refine or_congr_right (and_comm.trans (and_congr_left fun alone => ?_))
    rw [State.owner_self alone]
  · exact State.TicksTo.windowTick.unbound g unbound
  · intro flips
    have flips_iff : flips ↔ ((s.window k).isMember = false ∧ s.leaseActs k .reload = true)
        ∧ (s.windowTick.window k).state = .opened ∧ (s.gate g).mode = .toggle := by
      rw [groups.isMember_iff_owner]
      constructor
      · rintro ⟨reload, own, busy, toggle⟩
        have here := (acts_iff k .reload).mp reload
        rw [idles_reload k reload, ← own] at busy
        rw [← own] at here
        have alone := (groups.isMember_iff_owner k).mpr own
        exact ⟨⟨own, here⟩, (State.opened_windowTick_reload alone here).mpr busy, toggle⟩
      · rintro ⟨⟨own, here⟩, opened, toggle⟩
        rw [State.opened_windowTick_reload ((groups.isMember_iff_owner k).mpr own) here] at opened
        have reload : acts k .reload := (acts_iff k .reload).mpr (own ▸ here)
        exact ⟨reload, own, by rwa [idles_reload k reload, ← own], toggle⟩
    rw [State.gate_windowTick bound, flips_iff]
    exact ⟨fun flip => if_pos flip, fun keep => if_neg keep⟩

end Sys2Proof.Machine

/-! ### The tick on a window that acts for itself (R64 to R67, R69 to R73, R124) -/

namespace Sys2Proof.Machine

theorem Cause.exists_bit {c : Nat} (lt : c < 8) : ∃ d : Cause, d.bit = c := by
  match c, lt with
  | 0, _ => exact ⟨.expired, rfl⟩
  | 1, _ => exact ⟨.idle, rfl⟩
  | 2, _ => exact ⟨.revoked, rfl⟩
  | 3, _ => exact ⟨.drainForced, rfl⟩
  | 4, _ => exact ⟨.walkOverrun, rfl⟩
  | 5, _ => exact ⟨.refusal, rfl⟩
  | 6, _ => exact ⟨.loadDone, rfl⟩
  | 7, _ => exact ⟨.loadFail, rfl⟩

theorem Window.isHead_of_solo {w : Window} (solo : w.role = .solo) : w.isHead = false := by
  rw [← Bool.not_eq_true, Window.isHead_iff, solo]
  exact fun both => nomatch both.2

section
variable {s : State} {k : SlotId}

/-- The tick raises EXPIRED, IDLE and DRAIN_FORCED alone. -/
theorem State.cause_windowTick_other {c : Nat} (expired : c ≠ 0) (idle : c ≠ 1) (forced : c ≠ 3) :
    s.windowTick.attn.causes.getLsbD c = s.attn.causes.getLsbD c := by
  by_cases lt : c < 8
  · obtain ⟨d, rfl⟩ := Cause.exists_bit lt
    rw [Bool.eq_iff_iff, State.cause_windowTick]
    refine or_iff_left ?_
    rintro ⟨h, _, ⟨_, rfl⟩ | ⟨rfl, _⟩ | ⟨_, rfl⟩⟩
    · exact expired rfl
    · exact idle rfl
    · exact forced rfl
  · rw [BitVec.getLsbD_of_ge _ _ (by omega), BitVec.getLsbD_of_ge _ _ (by omega)]

/-- An ARMED slot opens with its whole group (R65, R85). -/
theorem GroupsAgree.armed_windowTick (groups : GroupsAgree s) (armed : (s.window k).state = .armed) :
    s.windowTick.window k = (s.window k).openAtTick := by
  have agrees := groups.unit_agrees (s.owner_owner k) (groups.mem_unitSlots_owner k)
  rw [armed] at agrees
  have owner : (s.window (s.owner k)).state = .armed := agrees.elim Eq.symm fun both => nomatch both.1
  rw [groups.window_windowTick, State.tickedWindow_armed owner]

/-- Where no count of an OPEN unit runs out, its slots are counted and no more (R66, R89). -/
theorem State.windowTick_counted {h j : SlotId} (alone : (s.window h).isMember = false) (mem : j ∈ s.unitSlots h)
    (opened : (s.window h).state = .opened) (runs : s.leaseEnds h = false)
    (busy : ∀ i ∈ s.unitSlots h, (s.window i).countDown.idleOut = false) :
    s.windowTick.window j = (s.window j).countDown := by
  rw [State.window_windowTick alone mem, State.tickedWindow_opened opened, State.openTicked_counted runs,
    State.idlesOut, busy h (s.mem_unitSlots_self h), busy j mem]
  rfl

/-- The tick leaves an OPEN window that acts for itself as its unit's tick does. -/
theorem State.windowTick_opened (alone : (s.window k).isMember = false) (opened : (s.window k).state = .opened) :
    s.windowTick.window k = s.openTicked k k := by
  rw [State.window_windowTick_self alone, State.tickedWindow_opened opened]

theorem State.windowTick_draining (alone : (s.window k).isMember = false) (drains : (s.window k).state = .draining) :
    s.windowTick.window k = s.drainTicked k k := by
  rw [State.window_windowTick_self alone, State.tickedWindow_draining drains]

theorem State.expired_windowTick_of_ends (alone : (s.window k).isMember = false) (ends : s.leaseEnds k = true) :
    s.windowTick.attn.expired.getLsbD k.val = true ∧ s.windowTick.attn.causes.getLsbD 0 = true :=
  ⟨(State.expired_windowTick k).mpr (.inr ⟨alone, ends⟩),
    (State.cause_windowTick .expired).mpr (.inr ⟨k, alone, .inl ⟨ends, rfl⟩⟩)⟩

theorem State.idle_windowTick_of_idle {h : SlotId} (alone : (s.window h).isMember = false)
    (opened : (s.window h).state = .opened) (mem : k ∈ s.unitSlots h) (thaws : s.leaseActs h .freeze = false)
    (frees : s.leaseActs h .retire = false) (idle : (s.window k).countDown.idleOut = true) :
    s.windowTick.attn.causes.getLsbD 1 = true :=
  (State.cause_windowTick .idle).mpr (.inr ⟨h, alone, .inr (.inl
    ⟨rfl, opened, k, mem, State.idleOut_leasedWindow.mpr ⟨thaws, frees, idle⟩⟩)⟩)

theorem State.drainForced_windowTick_of_out (alone : (s.window k).isMember = false)
    (drains : (s.window k).state = .draining) (out : (s.window k).drainCount ≤ 1) :
    s.windowTick.attn.causes.getLsbD 3 = true :=
  (State.cause_windowTick .drainForced).mpr (.inr ⟨k, alone, .inr (.inr ⟨⟨drains, out⟩, rfl⟩)⟩)

end

/-- Settles O44: each clause is the rule for its case of the tick, a SOLO window being a unit of its own. -/
theorem windowTickHandlesEachWindow : Obligations.WindowTickHandlesEachWindow := by
  intro s up waits
  refine ⟨s.windowTick, exec_windowTick up waits, State.TicksTo.windowTick.frame,
    fun c expired idle forced => State.cause_windowTick_other expired idle forced, fun k alone still => ?_,
    fun groups k armed => ?_, fun groups h head opened runs busy j mem => ?_, fun k w here solo => ?_⟩
  · rw [State.window_windowTick_self alone, State.tickedWindow_still still]
  · rw [groups.armed_windowTick armed]
    exact if_pos armed
  · have alone : (s.window h).isMember = false := Window.isMember_of_role (by simp [(Window.isHead_iff.mp head).2])
    have runs : s.leaseEnds h = false := by
      rw [← Bool.not_eq_true, State.leaseEnds_iff]
      rintro ⟨_, timed, out⟩
      have := runs timed
      omega
    have busy (i : SlotId) (inside : i ∈ s.unitSlots h) : (s.window i).countDown.idleOut = false := by
      rw [← Bool.not_eq_true, Window.idleOut_countDown]
      rintro ⟨_, limited, out⟩
      have := busy i inside limited
      omega
    rw [State.windowTick_counted alone mem opened runs busy, Window.countDown_eq]
    exact ⟨fun opened => if_pos opened, fun frozen => if_neg (by simp [frozen])⟩
  · subst here
    intro timed idle held counted reloaded
    have alone : (s.window k).isMember = false := Window.isMember_of_role (by simp [solo])
    have single : s.unitSlots k = [k] := State.unitSlots_single (Window.isHead_of_solo solo)
    have ends_iff : s.leaseEnds k = true ↔ (s.window k).state = .opened ∧ timed := State.leaseEnds_iff
    have acts_iff (a : ExpiryAction) : s.leaseActs k a = true
        ↔ (s.window k).state = .opened ∧ timed ∧ (s.window k).expiryAction = a := by
      rw [State.leaseActs_iff, ends_iff, and_assoc]
    have idles_iff (opened : (s.window k).state = .opened) : s.idlesOut k k = true ↔ idle := by
      rw [State.idlesOut, Bool.or_self, Window.idleOut_countDown, and_iff_right opened]
    have counted_eq (opened : (s.window k).state = .opened) : (s.window k).countDown = counted := by
      rw [Window.countDown_eq, if_pos opened]
    have frozen_eq (opened : (s.window k).state = .opened) :
        (s.window k).countDown.freeze = { counted with state := .frozen } := by
      rw [Window.freeze_opened ((s.window k).countDown_states.1.trans opened), counted_eq opened]
    have idle_raised (opened : (s.window k).state = .opened) (thaws : s.leaseActs k .freeze = false)
        (frees : s.leaseActs k .retire = false) (out : idle) : s.windowTick.attn.causes.getLsbD 1 = true :=
      State.idle_windowTick_of_idle alone opened (s.mem_unitSlots_self k) thaws frees
        (Window.idleOut_countDown.mpr ⟨opened, out⟩)
    have kept (runs : ¬ timed) : s.leaseEnds k = false := by
      rw [← Bool.not_eq_true, ends_iff]
      exact fun both => runs both.2
    have ends_slot (i : EntryId) (here : (s.entry i).slot = k) := State.tickEffect_ends_iff alone
      (here ▸ s.mem_unitSlots_self k : (s.entry i).slot ∈ s.unitSlots k)
    have held_iff : s.anyHeld (s.unitSlots k) = true ↔ held := by
      rw [single, State.anyHeld_iff]
      simp [held]
    refine ⟨fun opened runs busy => ?_, fun opened runs out => ?_, fun opened out => ?_, fun opened out reload => ?_,
      fun opened out freeze => ?_, fun opened out retire => ?_, fun drains left => ?_, fun drains out => ?_,
      fun unretired undrained i here => ?_, fun g bound => ?_⟩
    · rw [State.windowTick_opened alone opened, State.openTicked_counted (kept runs),
        if_neg ((idles_iff opened).not.mpr busy), counted_eq opened]
    · rw [State.windowTick_opened alone opened, State.openTicked_counted (kept runs),
        if_pos ((idles_iff opened).mpr out), frozen_eq opened]
      exact ⟨rfl, idle_raised opened (by simp [State.leaseActs, kept runs]) (by simp [State.leaseActs, kept runs]) out⟩
    · exact State.expired_windowTick_of_ends alone (ends_iff.mpr ⟨opened, out⟩)
    · rw [State.windowTick_opened alone opened, State.openTicked_reload ((acts_iff .reload).mpr ⟨opened, out, reload⟩),
        if_pos rfl, counted_eq opened]
      refine ⟨fun busy => if_neg ((idles_iff opened).not.mpr busy), fun idles => ⟨?_, ?_⟩⟩
      · rw [if_pos ((idles_iff opened).mpr idles)]
        exact Window.freeze_opened opened
      · exact idle_raised opened (by simp [State.leaseActs, reload]) (by simp [State.leaseActs, reload]) idles
    · rw [State.windowTick_opened alone opened, State.openTicked_freeze ((acts_iff .freeze).mpr ⟨opened, out, freeze⟩),
        frozen_eq opened]
    · have acts := (acts_iff .retire).mpr ⟨opened, out, retire⟩
      rw [State.windowTick_opened alone opened, State.openTicked_retire acts, counted_eq opened, if_pos rfl]
      refine ⟨fun holds => if_pos (held_iff.mpr holds), fun free => if_neg (held_iff.not.mpr free), fun i here => ?_⟩
      have ends : s.tickEffect.ends i = true ↔ (s.entry i).state = .waiting := by
        rw [ends_slot i here]
        simp [acts, opened]
      rw [State.entry_windowTick]
      simp only [ends]
    · rw [State.windowTick_draining alone drains, State.drainTicked, State.drainEnds,
        if_neg (by rw [decide_eq_true_iff]; omega), if_pos rfl]
    · refine ⟨?_, State.drainForced_windowTick_of_out alone drains out, fun i here holds => ?_⟩
      · rw [State.windowTick_draining alone drains, State.drainTicked, State.drainEnds, if_pos (decide_eq_true out)]
      · rw [State.entry_windowTick, if_pos ((ends_slot i here).mpr (.inr ⟨⟨drains, out⟩, .inr holds⟩))]
    · rw [State.entry_windowTick, if_neg]
      rw [ends_slot i here, acts_iff]
      rintro (⟨retires, _⟩ | ⟨drains, _⟩)
      · exact unretired retires
      · exact undrained drains
    · have opened_iff (reload : s.leaseActs k .reload = true) : (s.windowTick.window k).state = .opened ↔ ¬ idle :=
        (State.opened_windowTick_reload alone reload).trans (idles_iff ((acts_iff .reload).mp reload).1).not
      rw [State.gate_windowTick bound]
      refine ⟨fun opened out reload busy toggle => ?_, fun stays => ?_⟩
      · have acts := (acts_iff .reload).mpr ⟨opened, out, reload⟩
        exact if_pos ⟨⟨alone, acts⟩, (opened_iff acts).mpr busy, toggle⟩
      · refine if_neg fun ⟨⟨_, acts⟩, still, _⟩ => stays ?_
        obtain ⟨opened, out, reload⟩ := (acts_iff .reload).mp acts
        exact ⟨opened, out, reload, (opened_iff acts).mp still⟩

end Sys2Proof.Machine

/-! ### The expiries as events (R69 to R73, R88, R89, R91, R124) -/

namespace Sys2Proof.Machine

/-! #### Attention beside the windows -/

/-- Changes of windows do not look at Attention. -/
theorem State.modifyWindows_withAttn (s : State) (a : Attention) (ks : List SlotId) (f : Window → Window) :
    ({ s with attn := a } : State).modifyWindows ks f = { s.modifyWindows ks f with attn := a } := by
  induction ks generalizing s with
  | nil => rfl
  | cons k ks ih => exact ih (s.modifyWindow k f)

theorem State.FreedTo.withAttn {s t : State} {slots : List SlotId} (h : s.FreedTo t slots) (a : Attention) :
    ({ s with attn := a } : State).FreedTo { t with attn := a } slots :=
  ⟨congrArg (fun x : State => { x with attn := a }) h.1, h.2⟩

theorem State.DrainedTo.withAttn {s t : State} {h : SlotId} {slots : List SlotId} (drained : s.DrainedTo t h slots)
    (a : Attention) : ({ s with attn := a } : State).DrainedTo { t with attn := a } h slots :=
  ⟨congrArg (fun x : State => { x with attn := a }) drained.1, drained.2⟩

/-- Attention after the expiry of the lease that slot `k` owns: EXPIRED is raised and the slot is in the expired set. -/
def Attention.leaseExpired (a : Attention) (k : SlotId) : Attention :=
  { a with causes := a.causes ||| 0x01#8, expired := a.expired ||| (1#64 <<< k.val) }

section
variable {s : State} {k : SlotId}

theorem State.attn_goneUnit : (s.goneUnit k).attn = s.attn := by rw [(s.goneUnit_freedTo k).1]

theorem State.attn_drainUnit : (s.drainUnit k).attn = s.attn := by rw [(s.drainUnit_drainedTo k).1]

theorem State.expireLease_reload (action : (s.window k).expiryAction = .reload) :
    s.expireLease k
      = { (s.modifyWindow k fun w => { w with leaseCount := w.leaseReload }).flipToggles k with
          attn := s.attn.leaseExpired k } := by
  rw [State.expireLease, action]
  rfl

theorem State.expireLease_freeze (action : (s.window k).expiryAction = .freeze) :
    s.expireLease k = { s.freezeUnit k with attn := s.attn.leaseExpired k } := by
  rw [State.expireLease, action, ← State.modifyWindows_attn s (s.unitSlots k) Window.freeze]
  rfl

/-- An OPEN unit that the lease retires drains where it is held, and becomes FREE where it is not (R72, R90). -/
theorem State.expireLease_retire (opened : (s.window k).state = .opened)
    (action : (s.window k).expiryAction = .retire) :
    s.expireLease k
      = { if s.anyHeld (s.unitSlots k) then s.drainUnit k else s.goneUnit k with
          attn := s.attn.leaseExpired k } := by
  have attn : (if s.anyHeld (s.unitSlots k) then s.drainUnit k else s.goneUnit k).attn = s.attn := by
    split
    · exact State.attn_drainUnit
    · exact State.attn_goneUnit
  rw [State.expireLease, action, ← attn]
  simp only [State.retireUnit_opened opened]
  rfl

/-- The tick takes the lease count of an OPEN window that acts for itself to 0 where its lease ends at the tick. -/
theorem State.leaseExpiresAtTick_of_ends (alone : (s.window k).isMember = false) (ends : s.leaseEnds k = true) :
    s.leaseExpiresAtTick k = true := by
  rw [State.leaseEnds] at ends
  have opened := (Window.leaseOut_countDown.mp ends).1
  simp [State.leaseExpiresAtTick, opened, alone, State.window_countedUnit, ends]

end

/-- Settles O45: the row is the tick or the lookup that counts the lease to 0, and the action is that of the expiry. -/
theorem leaseExpiryActs : Obligations.LeaseExpiryActs := by
  refine ⟨fun s k up opened role timed out => ⟨fun waits => ?_, fun none => ?_⟩,
    fun s l r write k due kind passes uses last => ?_, fun s k w here opened role => ?_⟩
  · have alone := Window.isMember_of_role role
    have ends := State.leaseEnds_iff.mpr ⟨opened, timed, out⟩
    have row : exec (.leaseExpiry k) s = .next s.windowTick := by
      refine (execLeaseExpiry_timed timed).trans (takeEvent_can up ?_)
      rw [State.leaseExpiresAtTick_of_ends alone ends, decide_eq_true waits]
      rfl
    exact ⟨s.windowTick, row, exec_windowTick up waits, State.expired_windowTick_of_ends alone ends⟩
  · exact (execLeaseExpiry_timed timed).trans (takeEvent_cannot (by simp [none]))
  · have up : s.rstLow = false := by
      simp only [State.requestDue, Bool.and_eq_true, Bool.not_eq_true'] at due
      exact due.1.1.1
    have lastUse : s.isLastUse (s.owner k) l r (accessKind write) = true := by
      rw [State.isLastUse, passes.verdict]
      simp [uses, last]
    have row : exec (.leaseExpiry (s.owner k)) s = .next ((s.laneGranted l).lookup l r (accessKind write)) :=
      (execLeaseExpiry_lookup (State.lookupInTurn_due due kind) lastUse).trans (takeEvent_can up rfl)
    exact row.trans (exec_lookup due kind).symm
  · subst here
    intro attn out held
    refine ⟨fun reload => ⟨s.expireLease k, rfl, ?_, fun g => ?_⟩, fun freeze => ?_, fun retire holds => ?_,
      fun retire free => ?_⟩
    · rw [State.expireLease_reload reload]
      rfl
    · rw [State.expireLease_reload reload]
      show ((s.modifyWindow k fun w => { w with leaseCount := w.leaseReload }).flipToggles k).gate g = _
      rw [State.gate_flipToggles, State.gate_modifyWindow, Gate.report_self]
      rfl
    · rw [State.expireLease_freeze freeze]
      exact (s.modifyWindows_withAttn attn _ _).symm
    · rw [State.expireLease_retire opened retire, if_pos (State.anyHeld_iff.mpr holds)]
      exact (s.drainUnit_drainedTo k).withAttn attn
    · rw [State.expireLease_retire opened retire, if_neg (State.anyHeld_iff.not.mpr free)]
      exact (s.goneUnit_freedTo k).withAttn attn

/-! #### The idle expiry and the drain expiry -/

section
variable {s : State} {h k : SlotId}

/-- The idle expiry of slot `k` is found after those of its lease and its head. -/
theorem State.idleExpiresAtTick_of_idle (own : s.owner k = h) (mem : k ∈ s.unitSlots h)
    (opened : (s.window h).state = .opened) (idle : (s.leasedWindow h k).idleOut = true)
    (head : k ≠ h → (s.leasedWindow h h).idleOut = false) : s.idleExpiresAtTick k = true := by
  simp only [State.idleExpiresAtTick, own, opened, beq_self_eq_true, Bool.true_and, Bool.and_eq_true,
    List.contains_iff_mem]
  refine ⟨mem, ?_⟩
  split
  · rw [State.window_leasedUnit, if_pos mem, idle]
  · rename_i member
    rw [State.window_headedUnit, if_pos mem, head member]
    exact idle

/-- An idle expiry freezes the slot (R73, R89). -/
theorem State.openTicked_frozen (idle : (s.leasedWindow h k).idleOut = true) : (s.openTicked h k).state = .frozen := by
  rw [State.openTicked, idle, Bool.or_true, if_pos rfl, Window.state_freeze, if_pos (Window.opened_of_idleOut idle)]

/-- The idle expiry of the owner freezes every slot of its unit that is not FROZEN already. -/
theorem State.openTicked_frozen_unit (idle : (s.leasedWindow h h).idleOut = true)
    (state : (s.window k).state = .opened ∨ (s.window k).state = .frozen) : (s.openTicked h k).state = .frozen := by
  have kept := (State.leasedWindow_states (Window.opened_of_idleOut idle) k).1
  rw [State.openTicked, idle, Bool.true_or, if_pos rfl, Window.state_freeze, kept]
  rcases state with opened | frozen
  · rw [if_pos opened]
  · rw [if_neg (by simp [frozen]), frozen]

theorem State.drainExpiresAtTick_of_out (alone : (s.window k).isMember = false)
    (drains : (s.window k).state = .draining) (out : (s.window k).drainCount ≤ 1) :
    s.drainExpiresAtTick k = true := by
  simp [State.drainExpiresAtTick, alone, drains, out]

theorem State.idleOutAlone_opened (opened : (s.window k).state = .opened) :
    s.idleOutAlone k
      = { s.putWindow k { s.window k with state := .frozen } with
          attn := { s.attn with causes := s.attn.causes ||| 0x02#8 } } := by
  rw [State.idleOutAlone, State.modifyWindow, Window.freeze_opened opened]
  rfl

theorem State.idleOutUnit_eq :
    s.idleOutUnit k = { s.freezeUnit k with attn := { s.attn with causes := s.attn.causes ||| 0x02#8 } } := by
  rw [State.idleOutUnit, ← State.modifyWindows_attn s (s.unitSlots k) Window.freeze]
  rfl

theorem State.forceDrained_eq :
    s.forceDrained k = { s.goneUnit k with attn := { s.attn with causes := s.attn.causes ||| 0x08#8 } } := by
  rw [State.forceDrained, ← State.attn_goneUnit (s := s) (k := k)]
  rfl

end

/-- Settles O46: each row is the tick that takes its count to 0, and the operations are those of the two expiries. -/
theorem idleAndDrainExpiriesAct : Obligations.IdleAndDrainExpiriesAct := by
  refine ⟨fun s k up none => ⟨takeEvent_cannot (by simp [none]), takeEvent_cannot (by simp [none])⟩,
    fun s k h up waits groups owns opened here limited out spared busy => ?_,
    fun s k up waits groups drains role out => ?_, fun s k w here => ?_⟩
  · have own : s.owner h = h := by rw [owns, s.owner_owner]
    have alone : (s.window h).isMember = false := groups.alone own
    have mem : k ∈ s.unitSlots h := (groups.mem_unitSlots_iff own).mpr owns.symm
    have action (a : ExpiryAction) (other : a ≠ .reload) : s.leaseActs h a = false := by
      rw [← Bool.not_eq_true, State.leaseActs_iff, State.leaseEnds_iff]
      rintro ⟨⟨_, timed, ends⟩, acts⟩
      exact other (acts.symm.trans (spared timed ends))
    have thaws := action .freeze fun e => nomatch e
    have frees := action .retire fun e => nomatch e
    have counted : (s.window k).countDown.idleOut = true := Window.idleOut_countDown.mpr ⟨here, limited, out⟩
    have idle : (s.leasedWindow h k).idleOut = true := State.idleOut_leasedWindow.mpr ⟨thaws, frees, counted⟩
    have head (member : k ≠ h) : (s.leasedWindow h h).idleOut = false := by
      rw [← Bool.not_eq_true, State.idleOut_leasedWindow, Window.idleOut_countDown]
      rintro ⟨_, _, _, limited, out⟩
      have := busy member limited
      omega
    have ticked {j : SlotId} (inside : j ∈ s.unitSlots h) : s.windowTick.window j = s.openTicked h j := by
      rw [State.window_windowTick alone inside, State.tickedWindow_opened opened]
    refine ⟨s.windowTick, takeEvent_can up ?_, exec_windowTick up waits,
      State.idle_windowTick_of_idle alone opened mem thaws frees counted, ?_, fun same j inside => ?_⟩
    · rw [State.idleExpiresAtTick_of_idle owns.symm mem opened idle head, decide_eq_true waits]
      rfl
    · rw [ticked mem, State.openTicked_frozen idle]
    · rw [ticked inside, State.openTicked_frozen_unit (same ▸ idle)]
      have agrees := groups.unit_agrees own inside
      rw [opened] at agrees
      exact agrees.imp_right And.left
  · have alone := Window.isMember_of_role role
    refine ⟨s.windowTick, takeEvent_can up ?_, exec_windowTick up waits,
      State.drainForced_windowTick_of_out alone drains out, fun j mem => ?_, fun i mem live => ?_⟩
    · rw [State.drainExpiresAtTick_of_out alone drains out, decide_eq_true waits]
      rfl
    · rw [State.window_windowTick alone mem, State.tickedWindow_draining drains, State.drainTicked, State.drainEnds,
        if_pos (decide_eq_true out)]
    · rw [State.entry_windowTick, if_pos ((State.tickEffect_ends_iff alone mem).mpr (.inr ⟨⟨drains, out⟩, live⟩))]
  · subst here
    intro idled
    refine ⟨fun opened => ?_, ?_, ?_⟩
    · rw [State.idleOutAlone_opened opened]
      rfl
    · rw [State.idleOutUnit_eq]
      exact (s.modifyWindows_withAttn _ _ _).symm
    · rw [State.forceDrained_eq]
      exact (s.goneUnit_freedTo k).withAttn _

end Sys2Proof.Machine

/-! ### Revocation and wait expiry (R104, R109, R113 to R115) -/

namespace Sys2Proof.Machine

/-! #### The loss of a claim (R104, R109) -/

section
variable {s : State} {k : SlotId}

theorem State.afterLoss_opened (opened : (s.window k).state = .opened) : s.afterLoss k = s.grantPass k := by
  rw [State.afterLoss, opened]

theorem State.afterLoss_draining (drains : (s.window k).state = .draining) :
    s.afterLoss k
      = if s.anyHeld (s.unitSlots (s.owner k)) then s else s.clearSlots (s.unitSlots (s.owner k)) := by
  rw [State.afterLoss, drains]

theorem State.afterLoss_other (shut : (s.window k).state ≠ .opened) (stays : (s.window k).state ≠ .draining) :
    s.afterLoss k = s := by
  unfold State.afterLoss
  cases state : (s.window k).state with
  | opened => exact absurd state shut
  | draining => exact absurd state stays
  | free | staged | armed | frozen => rfl

/-- What a grant pass and the clearing of slots keep, the loss of a claim keeps. -/
theorem State.afterLoss_keeps {P : State → Prop} (same : P s) (passed : P (s.grantPass k))
    (cleared : P (s.clearSlots (s.unitSlots (s.owner k)))) : P (s.afterLoss k) := by
  by_cases opened : (s.window k).state = .opened
  · rwa [State.afterLoss_opened opened]
  · by_cases drains : (s.window k).state = .draining
    · rw [State.afterLoss_draining drains]
      split <;> assumption
    · rwa [State.afterLoss_other opened drains]

theorem State.attn_afterLoss : (s.afterLoss k).attn = s.attn :=
  State.afterLoss_keeps (P := fun t => t.attn = s.attn) rfl (s.grantPass_attn k)
    (s.modifyWindows_attn (s.unitSlots (s.owner k)) fun _ => Window.free)

/-- Only a WAITING entry changes at the loss of a claim. -/
theorem State.entry_afterLoss {i : EntryId} (settled : (s.entry i).state ≠ .waiting) :
    (s.afterLoss k).entry i = s.entry i :=
  State.afterLoss_keeps (P := fun t => t.entry i = s.entry i) rfl
    (State.grantPass_entry_kept fun both => settled both.1)
    (s.modifyWindows_entry (s.unitSlots (s.owner k)) (fun _ => Window.free) i)

end

theorem State.foldl_afterLoss_kept (ks : List SlotId) (s : State) :
    (ks.foldl State.afterLoss s).attn = s.attn
      ∧ ∀ i, (s.entry i).state ≠ .waiting → (ks.foldl State.afterLoss s).entry i = s.entry i := by
  induction ks generalizing s with
  | nil => exact ⟨rfl, fun _ _ => rfl⟩
  | cons k ks ih =>
    obtain ⟨attn, entry⟩ := ih (s.afterLoss k)
    refine ⟨attn.trans State.attn_afterLoss, fun i settled => ?_⟩
    have kept := State.entry_afterLoss (k := k) settled
    exact (entry i (by rwa [kept])).trans kept

/-! #### The countdowns that run out (R113 to R115) -/

theorem Entry.picks_holdOut : Entry.Picks Entry.holdOut where
  live e out := by
    simp only [Entry.holdOut, Bool.and_eq_true] at out
    simp [Entry.live, out.1]
  arrival _ _ := rfl

theorem Entry.picks_waitOut : Entry.Picks Entry.waitOut where
  live e out := by
    simp only [Entry.waitOut, Bool.and_eq_true] at out
    simp [Entry.live, out.1]
  arrival _ _ := rfl

theorem Entry.held_of_holdOut {e : Entry} (out : e.holdOut = true) : e.state = .held := by
  simp only [Entry.holdOut, Bool.and_eq_true, beq_iff_eq] at out
  exact out.1

theorem Entry.waiting_of_waitOut {e : Entry} (out : e.waitOut = true) : e.state = .waiting := by
  simp only [Entry.waitOut, Bool.and_eq_true, beq_iff_eq] at out
  exact out.1

theorem Entry.gone_countDown (e : Entry) (o : EOutcome) : e.countDown.gone o = e.gone o := by
  unfold Entry.countDown
  split <;> rfl

section
variable {s : State} {i : EntryId}

/-- REVOKED is raised where a hold countdown has run out, before the entries end. -/
def State.revocationRaised (s : State) : State :=
  if (List.finRange 48).any fun i => (s.entry i).holdOut then s.raise .revoked else s

theorem State.endTimedOut_eq :
    s.endTimedOut
      = (s.revocationRaised.endWhere Entry.holdOut .revoked).endWhere Entry.waitOut .waitExpired := rfl

theorem State.entry_revocationRaised : s.revocationRaised.entry i = s.entry i := by
  unfold State.revocationRaised
  split <;> rfl

/-- A HELD entry whose countdown has run out ends as REVOKED (R114). -/
theorem State.entry_endTimedOut_held (out : (s.entry i).holdOut = true) :
    s.endTimedOut.entry i = (s.entry i).gone .revoked := by
  have ended : (s.revocationRaised.endWhere Entry.holdOut .revoked).entry i = (s.entry i).gone .revoked := by
    rw [State.entry_endWhere_ended Entry.picks_holdOut, State.entry_revocationRaised]
    rwa [State.entry_revocationRaised]
  rw [State.endTimedOut_eq, State.entry_endWhere_kept Entry.picks_waitOut, ended]
  · intro waits
    rw [ended] at waits
    cases waits
  · rw [ended]
    rfl

/-- A WAITING entry whose countdown has run out ends as WAIT_EXPIRED (R115). -/
theorem State.entry_endTimedOut_waiting (out : (s.entry i).waitOut = true) :
    s.endTimedOut.entry i = (s.entry i).gone .waitExpired := by
  have waits := Entry.waiting_of_waitOut out
  have kept : (s.revocationRaised.endWhere Entry.holdOut .revoked).entry i = s.entry i := by
    rw [State.entry_endWhere_kept Entry.picks_holdOut, State.entry_revocationRaised]
    · intro _ j holds waits
      rw [Entry.held_of_holdOut holds] at waits
      cases waits
    · rw [State.entry_revocationRaised, Entry.holdOut, waits]
      rfl
  have passes : ((s.revocationRaised.endWhere Entry.holdOut .revoked).entry i).waitOut = true := by
    rw [kept]
    exact out
  rw [State.endTimedOut_eq, State.entry_endWhere_ended Entry.picks_waitOut passes, kept]

theorem State.attn_endTimedOut_revokes (out : (s.entry i).holdOut = true) :
    s.endTimedOut.attn = { s.attn with causes := s.attn.causes ||| 0x04#8 } := by
  have some : (List.finRange 48).any (fun i => (s.entry i).holdOut) = true :=
    List.any_eq_true.mpr ⟨i, List.mem_finRange i, out⟩
  have raised : s.revocationRaised = s.raise .revoked := by rw [State.revocationRaised, if_pos some]
  rw [State.endTimedOut_eq, State.endWhere_attn, State.endWhere_attn, raised]
  rfl

/-- The tick handed over is taken, and every countdown falls by one (R60, R113). -/
def State.claimCounted (s : State) : State :=
  State.mapEntries { s with timebase := { s.timebase with claimTicks := s.timebase.claimTicks - 1 } } Entry.countDown

theorem State.entry_claimCounted : s.claimCounted.entry i = (s.entry i).countDown := State.entry_mapEntries _ _ i

/-- The end of an entry at the tick stands after the losses that follow. -/
theorem State.entry_claimTick_ended {o : EOutcome}
    (ended : s.claimCounted.endTimedOut.entry i = (s.claimCounted.entry i).gone o) :
    s.claimTick.entry i = (s.entry i).gone o := by
  obtain ⟨_, entry⟩ := State.foldl_afterLoss_kept s.claimCounted.lossSlots s.claimCounted.endTimedOut
  rw [← Entry.gone_countDown, ← State.entry_claimCounted, ← ended]
  exact entry i (by rw [ended]; exact fun waits => nomatch waits)

theorem State.entry_claimTick_held (out : (s.entry i).countDown.holdOut = true) :
    s.claimTick.entry i = (s.entry i).gone .revoked :=
  State.entry_claimTick_ended (State.entry_endTimedOut_held (by rwa [State.entry_claimCounted]))

theorem State.entry_claimTick_waiting (out : (s.entry i).countDown.waitOut = true) :
    s.claimTick.entry i = (s.entry i).gone .waitExpired :=
  State.entry_claimTick_ended (State.entry_endTimedOut_waiting (by rwa [State.entry_claimCounted]))

theorem State.attn_claimTick_revokes (out : (s.entry i).countDown.holdOut = true) :
    s.claimTick.attn = { s.attn with causes := s.attn.causes ||| 0x04#8 } :=
  (State.foldl_afterLoss_kept s.claimCounted.lossSlots s.claimCounted.endTimedOut).1.trans
    (State.attn_endTimedOut_revokes (s := s.claimCounted) (i := i) (by rwa [State.entry_claimCounted]))

theorem exec_claimTick (up : s.rstLow = false) (waits : 0 < s.timebase.claimTicks) :
    exec .claimTick s = .next s.claimTick :=
  takeEvent_can up (decide_eq_true waits)

/-! #### One entry that ends (R95, R97) -/

/-- A HELD entry leaves no queue. -/
theorem State.endEntry_held {o : EOutcome} (holds : (s.entry i).state = .held) :
    s.endEntry i o
      = (s.putEntry i ((s.entry i).gone o)).putAgent (s.entry i).agent
          { s.agent (s.entry i).agent with inUse := (s.agent (s.entry i).agent).inUse - 1 } := by
  have stays : s.vacate i = s := if_neg (by simp [holds])
  rw [State.endEntry, stays]
  rfl

theorem State.endEntry_frame (o : EOutcome) :
    s.endEntry i o = { s with entries := (s.endEntry i o).entries, agents := (s.endEntry i o).agents } := by
  unfold State.endEntry State.vacate
  split <;> rfl

end

/-- Settles O48: the row is the tick that takes the countdown to 0, and an entry that ends is replaced by its end. -/
theorem revocationAndWaitExpiryEndOneEntry : Obligations.RevocationAndWaitExpiryEndOneEntry := by
  refine ⟨fun s i up none => ⟨takeEvent_cannot (by simp [none]), takeEvent_cannot (by simp [none])⟩,
    fun s i c up waits count low => ⟨fun holds => ?_, fun queued => ?_⟩, fun s i o a mine => ?_, fun s k => ?_⟩
  · have out : (s.entry i).countDown.holdOut = true := Entry.holdOut_countDown.mpr ⟨holds, c, count, low⟩
    exact ⟨s.claimTick, takeEvent_can up (by rw [out, decide_eq_true waits]; rfl), exec_claimTick up waits,
      State.entry_claimTick_held out, State.attn_claimTick_revokes out⟩
  · have out : (s.entry i).countDown.waitOut = true := Entry.waitOut_countDown.mpr ⟨queued, c, count, low⟩
    exact ⟨s.claimTick, takeEvent_can up (by rw [out, decide_eq_true waits]; rfl), exec_claimTick up waits,
      State.entry_claimTick_waiting out⟩
  · subst mine
    intro counted
    refine ⟨fun holds => State.endEntry_held holds, fun waits => ⟨State.endEntry_frame o, ?_, ?_, fun b other => ?_,
      fun j other => ?_⟩⟩
    · rw [State.entry_endEntry, if_pos rfl]
    · rw [State.agent_endEntry, if_pos rfl]
    · rw [State.agent_endEntry, if_neg other.symm]
    · rw [State.entry_endEntry, if_neg other.symm]
      simp only [waits, true_and]
  · intro held
    have held_iff : s.anyHeld (s.unitSlots (s.owner k)) = true ↔ held := State.anyHeld_iff
    refine ⟨State.afterLoss_opened, fun drains free => ?_, fun shut stays => ?_⟩
    · exact (State.afterLoss_draining drains).trans (if_neg (held_iff.not.mpr free))
    · by_cases drains : (s.window k).state = .draining
      · rw [State.afterLoss_draining drains, if_pos (held_iff.mpr (stays.resolve_left fun other => other drains))]
      · exact State.afterLoss_other shut drains

end Sys2Proof.Machine

/-! ### Units that act together, and the gates that follow them (R24, R80, R145) -/

namespace Sys2Proof.Machine

/-! #### The slots of a HEAD's unit (R80) -/

/-- With a HEAD act the MEMBERs above it without a gap. -/
theorem State.mem_unitSlots_of_isHead {s : State} {k j : SlotId} (head : (s.window k).isHead = true) :
    j ∈ s.unitSlots k ↔ j = k ∨ (k < j ∧ ∀ i, k < i → i ≤ j → (s.window i).isMember = true) := by
  rw [State.unitSlots, if_pos head, List.mem_cons]
  refine or_congr_right ⟨fun above => ⟨s.membersFrom_ge _ _ above, fun i low high => ?_⟩, fun ⟨above, between⟩ => ?_⟩
  · exact State.membersFrom_between above low high
  · exact State.mem_membersFrom above (by omega) fun i low high => between i low high

/-! #### The frame of a change of several windows -/

theorem State.modifyWindows_frame (s : State) (ks : List SlotId) (f : Window → Window) :
    s.modifyWindows ks f
      = { s with windows := (s.modifyWindows ks f).windows, gates := (s.modifyWindows ks f).gates } :=
  State.modifyWindows_keeps (P := fun t => t = { s with windows := t.windows, gates := t.gates })
    (fun t k h => congrArg (fun x : State =>
      { x with windows := (t.modifyWindow k f).windows, gates := (t.modifyWindow k f).gates }) h) ks s rfl

/-! #### What a gate makes of one report (R145) -/

section
variable {x : Gate} {k : SlotId} {old new : WState} (bound : x.binding = some k)
include bound

theorem Gate.report_level_changed (changed : new ≠ old) (level : x.mode = .level) :
    x.report k old new = { x with active := new == .opened } := by
  rw [Gate.report, if_pos ⟨bound, changed.symm⟩, level]

theorem Gate.report_toggle_crosses (changed : new ≠ old) (toggle : x.mode = .toggle)
    (crosses : old = .opened ∨ new = .opened) : x.report k old new = { x with active := false } := by
  rw [Gate.report, if_pos ⟨bound, changed.symm⟩, toggle]
  exact if_pos crosses

theorem Gate.report_toggle_outside (changed : new ≠ old) (toggle : x.mode = .toggle) (before : old ≠ .opened)
    (after : new ≠ .opened) : x.report k old new = x := by
  rw [Gate.report, if_pos ⟨bound, changed.symm⟩, toggle]
  exact if_neg (not_or.mpr ⟨before, after⟩)

end

section
variable {s t : State} {g : GateId} (reported : s.GatesReported t)
include reported

theorem State.GatesReported.unbound (free : (s.gate g).binding = none) : t.gate g = s.gate g := by
  rw [reported g, free]

theorem State.GatesReported.bound {j : SlotId} (bound : (s.gate g).binding = some j) :
    t.gate g = (s.gate g).report j (s.window j).state (t.window j).state := by
  rw [reported g, bound]

end

/-- Settles O21: each slot of the unit is written once, so that a bound gate sees one report of its slot. -/
theorem unitIsHeadAndItsMembers : Obligations.UnitIsHeadAndItsMembers := by
  intro s k f slots t
  have reported : s.GatesReported t := State.GatesReported.modifyWindows (s.unitSlots_nodup k) s f
  refine ⟨State.unitSlots_single, fun head _ => State.mem_unitSlots_of_isHead head,
    State.window_modifyWindows (s.unitSlots_nodup k) s f, s.modifyWindows_frame slots f,
    fun g => reported.unbound, fun g j bound same => ?_, fun g j bound changed level => ?_,
    fun g j bound changed toggle => ⟨fun crosses => ?_, fun before after => ?_⟩⟩
  all_goals rw [reported.bound bound]
  · rw [same, Gate.report_self]
  · exact Gate.report_level_changed bound changed level
  · exact Gate.report_toggle_crosses bound changed toggle crosses
  · exact Gate.report_toggle_outside bound changed toggle before after

end Sys2Proof.Machine

/-! ### RETIRE (R90, R92, R121) -/

namespace Sys2Proof.Machine

/-! #### States and roles -/

theorem WState.inService_ne {w : WState} (service : w = .opened ∨ w = .frozen) : w ≠ .free ∧ w ≠ .draining := by
  rcases service with rfl | rfl <;> decide

theorem Window.isHead_of_isMember {w : Window} (member : w.isMember = true) : w.isHead = false := by
  simp [Window.isHead, (Window.isMember_iff.mp member).2]

/-! #### Retirement of a unit (R90, R121) -/

section
variable {s : State} {h : SlotId} {force : Bool}

/-- The unit drains: its head is OPEN or FROZEN, a HELD entry names it, and FORCE is clear. -/
def State.RetireDrains (s : State) (h : SlotId) (force : Bool) : Prop :=
  ((s.window h).state = .opened ∨ (s.window h).state = .frozen) ∧ s.anyHeld (s.unitSlots h) = true ∧ force = false

theorem State.retireUnit_drains (drains : s.RetireDrains h force) : s.retireUnit h force = s.drainUnit h :=
  if_pos drains

theorem State.retireUnit_frees (frees : ¬ s.RetireDrains h force) : s.retireUnit h force = s.goneUnit h :=
  if_neg frees

/-- A window that is no HEAD becomes FREE alone. -/
theorem State.goneUnit_single (single : (s.window h).isHead = false) :
    s.goneUnit h = (s.endClaims [h]).clearSlots [h] := by
  rw [State.goneUnit, State.unitSlots_single single]

theorem State.window_drainUnit_self (s : State) (h : SlotId) :
    (s.drainUnit h).window h = { s.window h with state := .draining, drainCount := s.drainLimit } := by
  rw [State.window_drainUnit, if_pos (s.mem_unitSlots_self h), if_pos rfl]

theorem State.window_goneUnit_self (s : State) (h : SlotId) : (s.goneUnit h).window h = Window.free := by
  rw [State.window_goneUnit, if_pos (s.mem_unitSlots_self h)]

end

/-- The last member of a STAGED group is its tail (R92). -/
theorem State.isStagedTail_eq_true {s : State} {k : SlotId} (staged : (s.window (s.owner k)).state = .staged)
    (last : ∀ j : SlotId, j.val = k.val + 1 → (s.window j).isMember = false) : s.isStagedTail k = true := by
  rw [State.isStagedTail, staged]
  split
  · rw [last _ rfl]
    rfl
  · rfl

/-! #### The command -/

/-- RETIRE answers with the named slot, and the state and drain count that its window has entered (12.3). -/
def State.retired (s : State) (k : SlotId) : State :=
  s.answered 0x28 none (s.slotState k ++ [BitVec.ofNat 8 (s.window k).drainCount])

section
variable {slot : Byte} {k : SlotId} (hk : slotOf slot = some k)
include hk

theorem State.retired_drainUnit (s : State) :
    (s.drainUnit k).retired k = (s.drainUnit k).answered 0x28 none [slot, 5, BitVec.ofNat 8 s.drainLimit] := by
  simp [State.retired, State.slotState, State.window_drainUnit_self, slotOf_byte hk, WState.code]

theorem State.retired_goneUnit (s : State) :
    (s.goneUnit k).retired k = (s.goneUnit k).answered 0x28 none [slot, 0, 0] := by
  simp [State.retired, State.slotState, State.window_goneUnit_self, slotOf_byte hk, WState.code, Window.free]

variable {s : State} {force : Byte} (due : s.commandDue (.retire slot force) = true)
include due

theorem exec_retire_unit (role : (s.window k).role ≠ .member) (live : (s.window k).state ≠ .free)
    (taken : (s.window k).state = .draining → force.getLsbD 0 = true) :
    exec (.retire slot force) s = .next ((s.portGranted.retireUnit k (force.getLsbD 0)).retired k) := by
  refine takeCommand_done due rfl ?_
  have accepted : ¬ ((s.window k).state = .draining ∧ force.getLsbD 0 = false) := fun ⟨drains, clear⟩ =>
    Bool.false_ne_true (clear.symm.trans (taken drains))
  rw [retireReply, State.withSlot_some hk, State.portGranted_window, if_neg live, Window.isMember_of_role role,
    if_neg Bool.false_ne_true, if_neg accepted]

theorem exec_retire_drains (role : (s.window k).role ≠ .member)
    (drains : s.portGranted.RetireDrains k (force.getLsbD 0)) :
    exec (.retire slot force) s
      = .next ((s.portGranted.drainUnit k).answered 0x28 none [slot, 5, BitVec.ofNat 8 s.drainLimit]) := by
  obtain ⟨live, stays⟩ := WState.inService_ne drains.1
  rw [exec_retire_unit hk due role live fun st => absurd st stays, State.retireUnit_drains drains,
    State.retired_drainUnit hk, State.portGranted_drainLimit]

theorem exec_retire_frees (role : (s.window k).role ≠ .member) (live : (s.window k).state ≠ .free)
    (taken : (s.window k).state = .draining → force.getLsbD 0 = true)
    (frees : ¬ s.portGranted.RetireDrains k (force.getLsbD 0)) :
    exec (.retire slot force) s = .next ((s.portGranted.goneUnit k).answered 0x28 none [slot, 0, 0]) := by
  rw [exec_retire_unit hk due role live taken, State.retireUnit_frees frees, State.retired_goneUnit hk]

/-- The last member of a STAGED group becomes FREE as a unit of one slot (R92). -/
theorem exec_retire_tail (member : (s.window k).isMember = true) (tail : s.isStagedTail k = true) :
    exec (.retire slot force) s = .next ((s.portGranted.goneUnit k).answered 0x28 none [slot, 0, 0]) := by
  rw [← State.retired_goneUnit hk]
  refine takeCommand_done due rfl ?_
  have live : (s.window k).state ≠ .free := (Window.isMember_iff.mp member).1
  have granted : s.portGranted.isStagedTail k = true := by simpa [State.isStagedTail] using tail
  rw [retireReply, State.withSlot_some hk, State.portGranted_window, if_neg live, if_pos member, if_pos granted,
    State.goneUnit_single (s := s.portGranted) (Window.isHead_of_isMember member)]

end

/-- Settles O25: the unit drains or becomes FREE, as its retirement says; the last member of a STAGED group is a unit of
one slot. -/
theorem retireDrainsOrFreesUnit : Obligations.RetireDrainsOrFreesUnit := by
  intro s slot force k due hk held inService
  have held_iff : s.portGranted.anyHeld (s.portGranted.unitSlots k) = true ↔ held := by
    rw [State.anyHeld_iff, State.portGranted_unitSlots]
    rfl
  have freed := s.portGranted.goneUnit_freedTo k
  rw [State.portGranted_unitSlots] at freed
  refine ⟨fun role service holds clear => ?_, fun role which => ?_, fun member staged last => ?_⟩
  · have drained := s.portGranted.drainUnit_drainedTo k
    rw [State.portGranted_unitSlots] at drained
    exact ⟨_, exec_retire_drains hk due role ⟨service, held_iff.mpr holds, clear⟩, drained⟩
  · refine ⟨_, ?_, freed⟩
    rcases which with ⟨service, spared⟩ | staged | armed | ⟨draining, forced⟩
    · obtain ⟨live, stays⟩ := WState.inService_ne service
      refine exec_retire_frees hk due role live (fun st => absurd st stays) fun ⟨_, holds, clear⟩ => ?_
      rcases spared with free | forced
      · exact free (held_iff.mp holds)
      · exact Bool.false_ne_true (clear.symm.trans forced)
    · exact exec_retire_frees hk due role (by simp [staged]) (by simp [staged])
        (by simp [State.RetireDrains, staged])
    · exact exec_retire_frees hk due role (by simp [armed]) (by simp [armed]) (by simp [State.RetireDrains, armed])
    · exact exec_retire_frees hk due role (by simp [draining]) (fun _ => forced)
        (by simp [State.RetireDrains, draining])
  · rw [State.unitSlots_single (Window.isHead_of_isMember member)] at freed
    exact ⟨_, exec_retire_tail hk due member (State.isStagedTail_eq_true staged last), freed⟩

end Sys2Proof.Machine

/-! ### Claims: one entry at a time, and the numbers that count them (R94 to R97) -/

namespace Sys2Proof.Machine

/-! #### Counting entries -/

/-- A count over all numbers changes at the one number where the tests differ. -/
theorem countP_finRange_change {n : Nat} {p q : Fin n → Bool} (i : Fin n) (same : ∀ j, i ≠ j → q j = p j) :
    (List.finRange n).countP q + (p i).toNat = (List.finRange n).countP p + (q i).toNat := by
  have split (r : Fin n → Bool) :
      (List.finRange n).countP r = (r i).toNat + ((List.finRange n).erase i).countP r := by
    rw [(List.perm_cons_erase (List.mem_finRange i)).countP_eq, List.countP_cons, Nat.add_comm]
    cases r i <;> rfl
  have rest : ((List.finRange n).erase i).countP q = ((List.finRange n).erase i).countP p :=
    List.countP_congr fun j mem => by
      rw [same j fun e => (List.nodup_finRange n).not_mem_erase (e ▸ mem)]
  rw [split p, split q, rest]
  omega

theorem countP_finRange_le {n : Nat} {p q : Fin n → Bool} (imp : ∀ j, q j = true → p j = true) :
    (List.finRange n).countP q ≤ (List.finRange n).countP p :=
  List.countP_mono_left fun j _ => imp j

theorem countP_finRange_pos {n : Nat} {p : Fin n → Bool} {i : Fin n} (passes : p i = true) :
    1 ≤ (List.finRange n).countP p :=
  List.countP_pos_iff.mpr ⟨i, List.mem_finRange i, passes⟩

theorem countP_finRange_eq_zero {n : Nat} {p : Fin n → Bool} :
    (List.finRange n).countP p = 0 ↔ ∀ i, p i = false := by
  simp [List.countP_eq_zero]

/-! #### The words of a claim -/

theorem Entry.live_iff {e : Entry} : e.live = true ↔ e.state = .waiting ∨ e.state = .held := by
  simp [Entry.live]

theorem Entry.live_eq_false {e : Entry} : e.live = false ↔ e.state ≠ .waiting ∧ e.state ≠ .held := by
  simp [Entry.live]

section
variable {s : State} {a : AgentId} {k : SlotId}

theorem State.writeHeld_iff :
    s.writeHeld k = true
      ↔ ∃ i : EntryId, (s.entry i).state = .held ∧ (s.entry i).slot = k ∧ (s.entry i).kind = .write := by
  simp [State.writeHeld, and_assoc]

theorem State.writeHeld_eq_false :
    s.writeHeld k = false
      ↔ ∀ i : EntryId, (s.entry i).state = .held → (s.entry i).slot = k → (s.entry i).kind = .read := by
  have kinds (x : ClaimKind) : x ≠ .write ↔ x = .read := by cases x <;> simp
  rw [← Bool.not_eq_true, State.writeHeld_iff]
  simp [kinds]

theorem State.heldCount_pos {i : EntryId} (holds : (s.entry i).state = .held) (slot : (s.entry i).slot = k) :
    1 ≤ s.heldCount k :=
  countP_finRange_pos (i := i) (by simp [holds, slot])

theorem State.findClaim_eq_none :
    s.findClaim a k = none
      ↔ ∀ i : EntryId, (s.entry i).live = true → (s.entry i).agent = a → (s.entry i).slot ≠ k := by
  simp [State.findClaim]

theorem State.findClaim_some {i : EntryId} (found : s.findClaim a k = some i) :
    (s.entry i).live = true ∧ (s.entry i).agent = a ∧ (s.entry i).slot = k := by
  simpa [and_assoc] using List.find?_some found

/-- The head of a queue has arrival number 1 (R97). -/
theorem State.queueHead_arrival {i : EntryId} (head : s.queueHead k = some i) : (s.entry i).arrival = 1 := by
  have := List.find?_some head
  simp only [Bool.and_eq_true, beq_iff_eq] at this
  exact this.2

theorem State.lowestFreeEntry_some {i : EntryId} (found : s.lowestFreeEntry = some i) : (s.entry i).state = .free := by
  simpa using List.find?_some found

end

/-! #### An entry that leaves its queue -/

/-- From `s` to `t` entry `i` is WAITING no more, and those behind it in its queue, if it stood in one, move up (R97). -/
structure State.Leaves (s : State) (i : EntryId) (t : State) : Prop where
  settled : (t.entry i).state ≠ .waiting
  arrival : (t.entry i).arrival = 0
  others : ∀ j, i ≠ j →
    t.entry j
      = if (s.entry i).state = .waiting ∧ (s.entry j).state = .waiting ∧ (s.entry j).slot = (s.entry i).slot
          ∧ (s.entry i).arrival < (s.entry j).arrival then
        { s.entry j with arrival := (s.entry j).arrival - 1 }
      else s.entry j

theorem State.entry_vacate (s : State) (i j : EntryId) :
    (s.vacate i).entry j
      = if (s.entry i).state = .waiting ∧ (s.entry j).state = .waiting ∧ (s.entry j).slot = (s.entry i).slot
          ∧ (s.entry i).arrival < (s.entry j).arrival then
        { s.entry j with arrival := (s.entry j).arrival - 1 }
      else s.entry j := by
  by_cases waits : (s.entry i).state = .waiting <;> simp [State.vacate, State.closeQueue, waits]

@[simp] theorem State.vacate_agent (s : State) (i : EntryId) (a : AgentId) : (s.vacate i).agent a = s.agent a := by
  unfold State.vacate
  split <;> rfl

theorem State.freeEntry_eq (s : State) (i : EntryId) :
    s.freeEntry i
      = if (s.entry i).live = true then ((s.vacate i).putEntry i Entry.free).decInUse (s.entry i).agent
        else (s.vacate i).putEntry i Entry.free := by
  by_cases live : (s.entry i).live = true
  · rw [State.freeEntry, if_pos live, if_pos live]
  · have stays : s.vacate i = s := if_neg (Entry.live_eq_false.mp (by simpa using live)).1
    rw [State.freeEntry, if_neg live, if_neg live, stays]

theorem State.entry_freeEntry (s : State) (i j : EntryId) :
    (s.freeEntry i).entry j = if i = j then Entry.free else (s.vacate i).entry j := by
  rw [State.freeEntry_eq]
  split <;> simp [State.entry_putEntry]

/-- The agent of a live entry that becomes FREE counts one claim in use less (R96). -/
theorem State.agent_freeEntry (s : State) (i : EntryId) (a : AgentId) :
    (s.freeEntry i).agent a
      = if (s.entry i).live = true ∧ (s.entry i).agent = a then { s.agent a with inUse := (s.agent a).inUse - 1 }
        else s.agent a := by
  rw [State.freeEntry_eq]
  by_cases live : (s.entry i).live = true
  · simp only [live, if_true, true_and, State.decInUse, State.agent_putAgent, State.putEntry_agent, State.vacate_agent]
    split <;> simp_all
  · simp [live]

theorem State.entry_grantEntry_self (s : State) (i : EntryId) :
    (s.grantEntry i).entry i
      = { s.entry i with
          state := .held, stamp := s.timebase.stamp
          countdown := holdCountdown (s.window (s.entry i).slot).holdLimit
          arrival := 0, outcome := some .granted, noticePending := true } :=
  State.entry_putEntry_self _ _ _

theorem State.leaves_endEntry (s : State) (i : EntryId) (o : EOutcome) : s.Leaves i (s.endEntry i o) where
  settled := by simp [State.entry_endEntry, Entry.gone]
  arrival := by simp [State.entry_endEntry, Entry.gone]
  others j ne := by rw [State.entry_endEntry, if_neg ne]

theorem State.leaves_freeEntry (s : State) (i : EntryId) : s.Leaves i (s.freeEntry i) where
  settled := by simp [State.entry_freeEntry, Entry.free]
  arrival := by simp [State.entry_freeEntry, Entry.free]
  others j ne := by rw [State.entry_freeEntry, if_neg ne, State.entry_vacate]

theorem State.leaves_grantEntry {s : State} {i : EntryId} (waits : (s.entry i).state = .waiting) :
    s.Leaves i (s.grantEntry i) where
  settled := by simp [State.entry_grantEntry_self]
  arrival := by simp [State.entry_grantEntry_self]
  others j ne := by
    rw [State.grantEntry, State.entry_putEntry, if_neg ne]
    simp [State.closeQueue, waits]

section
variable {s t : State} {i j : EntryId}

/-- Every other entry keeps all but its arrival number. -/
theorem State.Leaves.other (leaves : s.Leaves i t) (ne : i ≠ j) :
    t.entry j = { s.entry j with arrival := (t.entry j).arrival } := by
  rw [leaves.others j ne]
  split <;> rfl

/-- A count by a test that does not look at the arrival number changes at the one entry. -/
theorem State.Leaves.countP (leaves : s.Leaves i t) {p : Entry → Bool}
    (blind : ∀ (e : Entry) (n : Nat), p { e with arrival := n } = p e) :
    ((List.finRange 48).countP fun j => p (t.entry j)) + (p (s.entry i)).toNat
      = ((List.finRange 48).countP fun j => p (s.entry j)) + (p (t.entry i)).toNat :=
  countP_finRange_change (p := fun j => p (s.entry j)) (q := fun j => p (t.entry j)) i fun j ne => by
    rw [leaves.other ne, blind]

/-- Those of another queue are as many as before. -/
theorem State.Leaves.waitingCount (leaves : s.Leaves i t) (k : SlotId) :
    t.waitingCount k + (if (s.entry i).state = .waiting ∧ (s.entry i).slot = k then 1 else 0) = s.waitingCount k := by
  have count := leaves.countP (p := fun e => e.state == .waiting && e.slot == k) fun _ _ => rfl
  have gone : ((t.entry i).state == .waiting) = false := by simpa using leaves.settled
  by_cases mine : (s.entry i).state = .waiting ∧ (s.entry i).slot = k
  · simpa [State.waitingCount, mine, gone] using count
  · have out : ((s.entry i).state == .waiting && (s.entry i).slot == k) = false := by simpa using mine
    simpa [State.waitingCount, mine, gone, out] using count

end

end Sys2Proof.Machine

/-! ### What a change of the claims keeps (R94, R96, R97, R99, R103, R106, R130) -/

namespace Sys2Proof.Machine

/-! #### The wait queues (R94, R97) -/

section
variable {s t : State}

/-- Where every entry keeps its state, slot and arrival number, the queues stay in order. -/
theorem QueuesOrdered.of_same (queues : QueuesOrdered s)
    (same : ∀ i, (t.entry i).state = (s.entry i).state ∧ (t.entry i).slot = (s.entry i).slot
      ∧ (t.entry i).arrival = (s.entry i).arrival) : QueuesOrdered t := by
  have count (k : SlotId) : t.waitingCount k = s.waitingCount k := by
    simp only [State.waitingCount, (same _).1, (same _).2.1]
  obtain ⟨range, once, none⟩ := queues
  refine ⟨fun i waits => ?_, fun i j => ?_, fun i => ?_⟩
  · rw [(same i).1] at waits
    rw [(same i).2.1, (same i).2.2, count]
    exact range i waits
  · rw [(same i).1, (same i).2.1, (same i).2.2, (same j).1, (same j).2.1, (same j).2.2]
    exact once i j
  · rw [(same i).1, (same i).2.2]
    exact none i

/-- When an entry leaves its queue, those behind it move up and the queues stay in order. -/
theorem QueuesOrdered.leaves {i : EntryId} (queues : QueuesOrdered s) (leaves : s.Leaves i t) : QueuesOrdered t := by
  obtain ⟨range, once, none⟩ := queues
  have stays {j : EntryId} (waits : (t.entry j).state = .waiting) : i ≠ j := fun e => leaves.settled (e ▸ waits)
  have kept {j : EntryId} (ne : i ≠ j) :
      (t.entry j).state = (s.entry j).state ∧ (t.entry j).slot = (s.entry j).slot := by
    rw [leaves.other ne]
    exact ⟨rfl, rfl⟩
  have moved {j : EntryId} (ne : i ≠ j) :
      (t.entry j).arrival
        = if (s.entry i).state = .waiting ∧ (s.entry j).state = .waiting ∧ (s.entry j).slot = (s.entry i).slot
            ∧ (s.entry i).arrival < (s.entry j).arrival then (s.entry j).arrival - 1 else (s.entry j).arrival := by
    rw [leaves.others j ne]
    split <;> rfl
  refine ⟨fun j waits => ?_, fun j j' waits waits' slot arrival => ?_, fun j settled => ?_⟩
  · have ne := stays waits
    obtain ⟨state, slot⟩ := kept ne
    rw [state] at waits
    have bounds := range j waits
    have count := leaves.waitingCount (s.entry j).slot
    have distinct := once i j
    rw [moved ne, slot]
    by_cases queued : (s.entry i).state = .waiting ∧ (s.entry i).slot = (s.entry j).slot
    · have first := range i queued.1
      have apart : (s.entry i).arrival ≠ (s.entry j).arrival := fun e => ne (distinct queued.1 waits queued.2 e)
      rw [if_pos queued] at count
      rw [queued.2] at first
      simp only [queued, waits, true_and]
      split <;> omega
    · rw [if_neg queued] at count
      rw [if_neg fun all => queued ⟨all.1, all.2.2.1.symm⟩]
      omega
  · have ne := stays waits
    have ne' := stays waits'
    obtain ⟨state, slot₁⟩ := kept ne
    obtain ⟨state', slot₂⟩ := kept ne'
    rw [state] at waits
    rw [state'] at waits'
    rw [slot₁, slot₂] at slot
    refine once j j' waits waits' slot ?_
    rw [moved ne, moved ne'] at arrival
    simp only [waits, waits', slot, true_and] at arrival
    by_cases queued : (s.entry i).state = .waiting ∧ (s.entry j').slot = (s.entry i).slot
    · have before : (s.entry i).arrival ≠ (s.entry j).arrival := fun e =>
        ne (once i j queued.1 waits (by rw [slot, queued.2]) e)
      have before' : (s.entry i).arrival ≠ (s.entry j').arrival := fun e =>
        ne' (once i j' queued.1 waits' queued.2.symm e)
      simp only [queued, true_and] at arrival
      split at arrival <;> split at arrival <;> omega
    · rwa [if_neg fun all => queued ⟨all.1, all.2.1⟩, if_neg fun all => queued ⟨all.1, all.2.1⟩] at arrival
  · by_cases e : i = j
    · exact e ▸ leaves.arrival
    · rw [(kept e).1] at settled
      rw [moved e, if_neg fun all => settled all.2.1]
      exact none j settled

/-! #### One claim of an agent per window (R99) -/

/-- Where each live entry was live for the same agent and slot, no agent has two claims on one window. -/
theorem ClaimsDistinct.of_live (distinct : ClaimsDistinct s)
    (live : ∀ i, (t.entry i).live = true →
      (s.entry i).live = true ∧ (t.entry i).agent = (s.entry i).agent ∧ (t.entry i).slot = (s.entry i).slot) :
    ClaimsDistinct t := by
  intro i j here there agent slot
  obtain ⟨live₁, agent₁, slot₁⟩ := live i here
  obtain ⟨live₂, agent₂, slot₂⟩ := live j there
  exact distinct i j live₁ live₂ (by rw [← agent₁, ← agent₂, agent]) (by rw [← slot₁, ← slot₂, slot])

/-! #### Claims in use (R96, R130) -/

/-- Where the count of each agent moves with its WAITING and HELD entries, and no entry comes into use, every agent
stays counted. -/
theorem AgentsCounted.of_counts (counted : AgentsCounted s)
    (record : ∀ a, t.agent a = { s.agent a with inUse := (t.agent a).inUse })
    (inUse : ∀ a, (s.agent a).inUse = s.liveCount a → (t.agent a).inUse = t.liveCount a)
    (fewer : ∀ a, t.liveCount a ≤ s.liveCount a)
    (used : ∀ i, (t.entry i).state ≠ .free → (s.entry i).state ≠ .free ∧ (t.entry i).agent = (s.entry i).agent) :
    AgentsCounted t := by
  intro a
  obtain ⟨count, room, limit, off⟩ := counted a
  have here := inUse a count
  have le := fewer a
  rw [record a] at here ⊢
  refine ⟨here, ?_, limit, fun disabled i inPlay mine => ?_⟩
  · exact (here.trans_le le).trans (count ▸ room)
  · obtain ⟨before, same⟩ := used i inPlay
    exact off disabled i before (same ▸ mine)

end

/-! #### The claims on a window fit its record (R103, R106) -/

/-- The claims that name slot `k` fit the window record: its state may have them, its claim limit has room for the
HELD ones, and the limit of a window that is not FREE is at least 1. -/
structure State.SlotFits (s : State) (k : SlotId) (w : Window) : Prop where
  waits : ∀ i, (s.entry i).state = .waiting → (s.entry i).slot = k → w.state = .opened ∨ w.state = .frozen
  holds : ∀ i, (s.entry i).state = .held → (s.entry i).slot = k →
    w.state = .opened ∨ w.state = .frozen ∨ w.state = .draining
  held : s.heldCount k ≤ w.claimLimit
  room : w.state ≠ .free → 1 ≤ w.claimLimit

/-- The claims fit every window, and a HELD WRITE entry is the only HELD one. -/
structure State.Fits (s : State) : Prop where
  slots : ∀ k, s.SlotFits k (s.window k)
  alone : ∀ k, s.writeHeld k = true → s.heldCount k = 1

theorem State.fits_iff {s : State} :
    s.Fits ↔ ClaimsFit s ∧ HoldersFit s ∧ ∀ k, (s.window k).state ≠ .free → 1 ≤ (s.window k).claimLimit := by
  constructor
  · intro fits
    exact ⟨fun i => ⟨fun waits => (fits.slots _).waits i waits rfl, fun holds => (fits.slots _).holds i holds rfl⟩,
      fun k => ⟨(fits.slots k).held, fits.alone k⟩, fun k => (fits.slots k).room⟩
  · rintro ⟨claims, holders, room⟩
    exact ⟨fun k => ⟨fun i waits slot => slot ▸ (claims i).1 waits, fun i holds slot => slot ▸ (claims i).2 holds,
      (holders k).1, room k⟩, fun k => (holders k).2⟩

section
variable {s t : State} {k : SlotId} {w : Window}

/-- A record of the same state and claim limit. -/
theorem State.SlotFits.same (fits : s.SlotFits k w) {v : Window} (state : v.state = w.state)
    (limit : v.claimLimit = w.claimLimit) : s.SlotFits k v :=
  ⟨by rw [state]; exact fits.waits, by rw [state]; exact fits.holds, by rw [limit]; exact fits.held,
    by rw [state, limit]; exact fits.room⟩

/-- A record of another state in which a window may have claims. -/
theorem State.SlotFits.serves (fits : s.SlotFits k w) {v : Window} (live : w.state ≠ .free)
    (service : v.state = .opened ∨ v.state = .frozen) (limit : v.claimLimit = w.claimLimit) : s.SlotFits k v :=
  ⟨fun _ _ _ => service, fun _ _ _ => service.imp_right .inl, by rw [limit]; exact fits.held,
    fun _ => by rw [limit]; exact fits.room live⟩

/-- A window that drains keeps its HELD entries. -/
theorem State.SlotFits.drains (fits : s.SlotFits k w) {v : Window} (live : w.state ≠ .free)
    (state : v.state = .draining) (limit : v.claimLimit = w.claimLimit)
    (none : ∀ i, (s.entry i).state = .waiting → (s.entry i).slot ≠ k) : s.SlotFits k v :=
  ⟨fun i waits slot => absurd slot (none i waits), fun _ _ _ => .inr (.inr state), by rw [limit]; exact fits.held,
    fun _ => by rw [limit]; exact fits.room live⟩

theorem State.heldCount_eq_zero (none : ∀ i, (s.entry i).state = .held → (s.entry i).slot ≠ k) : s.heldCount k = 0 :=
  countP_finRange_eq_zero.mpr fun i => by
    by_contra both
    simp only [Bool.not_eq_false, Bool.and_eq_true, beq_iff_eq] at both
    exact none i both.1 both.2

/-- Any record fits a slot that no claim names, if it is FREE or has room for one. -/
theorem State.SlotFits.unclaimed (none : ∀ i, (s.entry i).live = true → (s.entry i).slot ≠ k)
    (room : w.state ≠ .free → 1 ≤ w.claimLimit) : s.SlotFits k w :=
  ⟨fun i waits slot => absurd slot (none i (Entry.live_iff.mpr (.inl waits))),
    fun i holds slot => absurd slot (none i (Entry.live_iff.mpr (.inr holds))),
    by rw [State.heldCount_eq_zero fun i holds => none i (Entry.live_iff.mpr (.inr holds))]; exact Nat.zero_le _, room⟩

/-- No claim names a slot whose window is FREE, STAGED or ARMED (R106). -/
theorem State.SlotFits.no_claim (fits : s.SlotFits k w) (opened : w.state ≠ .opened) (frozen : w.state ≠ .frozen)
    (draining : w.state ≠ .draining) (i : EntryId) (live : (s.entry i).live = true) : (s.entry i).slot ≠ k := by
  intro slot
  rcases Entry.live_iff.mp live with waits | holds
  · exact (fits.waits i waits slot).elim opened frozen
  · exact (fits.holds i holds slot).elim opened fun rest => rest.elim frozen draining

/-- Only windows have changed, and the claims fit each as it now is. -/
theorem State.Fits.of_windows (fits : s.Fits) (entries : t.entries = s.entries)
    (slots : ∀ k, s.SlotFits k (t.window k)) : t.Fits := by
  have entry (i : EntryId) : t.entry i = s.entry i := by rw [State.entry, entries]; rfl
  have held (k : SlotId) : t.heldCount k = s.heldCount k := by simp only [State.heldCount, entry]
  have write (k : SlotId) : t.writeHeld k = s.writeHeld k := by simp only [State.writeHeld, entry]
  refine ⟨fun k => ?_, fun k => by rw [held, write]; exact fits.alone k⟩
  obtain ⟨waits, holds, count, room⟩ := slots k
  exact ⟨by simpa only [entry] using waits, by simpa only [entry] using holds, by rwa [held], room⟩

/-- Where every entry that is WAITING or HELD was so before, on the same slot and of the same kind, the claims fit. -/
theorem State.Fits.of_entries (fits : s.Fits) (windows : ∀ k, t.window k = s.window k)
    (live : ∀ i, (t.entry i).live = true →
      (t.entry i).state = (s.entry i).state ∧ (t.entry i).slot = (s.entry i).slot
        ∧ (t.entry i).kind = (s.entry i).kind) : t.Fits := by
  have waits {i : EntryId} (h : (t.entry i).state = .waiting) := live i (Entry.live_iff.mpr (.inl h))
  have holds {i : EntryId} (h : (t.entry i).state = .held) := live i (Entry.live_iff.mpr (.inr h))
  have count (k : SlotId) : t.heldCount k ≤ s.heldCount k := countP_finRange_le fun i both => by
    simp only [Bool.and_eq_true, beq_iff_eq] at both ⊢
    obtain ⟨state, slot, _⟩ := holds both.1
    exact ⟨state ▸ both.1, slot ▸ both.2⟩
  refine ⟨fun k => ⟨fun i h slot => ?_, fun i h slot => ?_, ?_, ?_⟩, fun k writes => ?_⟩
  · obtain ⟨state, same, _⟩ := waits h
    rw [windows]
    exact (fits.slots k).waits i (state ▸ h) (same ▸ slot)
  · obtain ⟨state, same, _⟩ := holds h
    rw [windows]
    exact (fits.slots k).holds i (state ▸ h) (same ▸ slot)
  · rw [windows]
    exact (count k).trans (fits.slots k).held
  · rw [windows]
    exact (fits.slots k).room
  · obtain ⟨i, held, slot, kind⟩ := State.writeHeld_iff.mp writes
    obtain ⟨state, slot', kind'⟩ := holds held
    have before := fits.alone k (State.writeHeld_iff.mpr ⟨i, state ▸ held, slot' ▸ slot, kind' ▸ kind⟩)
    have least := State.heldCount_pos held slot
    have most := count k
    omega

end

end Sys2Proof.Machine

/-! ### What the claims operations uphold: counts, queues, distinctness and fit, said once per operation -/

namespace Sys2Proof.Machine

/-! #### Upholding -/

/-- From `s` to `t` the claims stay counted, queued and distinct, and where `whole` holds they stay fitting. -/
structure State.Upholds (whole : Prop) (s t : State) : Prop where
  counted : AgentsCounted s → AgentsCounted t
  queues : QueuesOrdered s → QueuesOrdered t
  distinct : ClaimsDistinct s → ClaimsDistinct t
  fits : whole → s.Fits → t.Fits

/-- The window can take one more HELD entry of the kind (R100, R103). -/
def State.HasRoom (s : State) (k : SlotId) : ClaimKind → Prop
  | .write => s.heldCount k = 0
  | .read => s.writeHeld k = false ∧ s.heldCount k < (s.window k).claimLimit

section
variable {p q : Prop} {s t u : State}

theorem State.Upholds.refl (s : State) : s.Upholds p s := ⟨id, id, id, fun _ => id⟩

theorem State.Upholds.trans (h : s.Upholds p t) (h' : t.Upholds q u) (imp : p → q) : s.Upholds p u :=
  ⟨h'.counted ∘ h.counted, h'.queues ∘ h.queues, h'.distinct ∘ h.distinct,
    fun whole => h'.fits (imp whole) ∘ h.fits whole⟩

/-- A chain on whose second part no condition stands. -/
theorem State.Upholds.next (h : s.Upholds p t) (h' : t.Upholds True u) : s.Upholds p u :=
  h.trans h' fun _ => trivial

theorem State.Upholds.given (h : s.Upholds True t) : s.Upholds p t :=
  ⟨h.counted, h.queues, h.distinct, fun _ => h.fits trivial⟩

theorem State.Upholds.foldl {α : Type} {f : State → α → State} (one : ∀ (s : State) a, s.Upholds True (f s a))
    (as : List α) (s : State) : s.Upholds True (as.foldl f s) := by
  induction as generalizing s with
  | nil => exact .refl s
  | cons a as ih => exact (one s a).next (ih _)

theorem State.entry_of_entries (entries : t.entries = s.entries) (i : EntryId) : t.entry i = s.entry i := by
  rw [State.entry, entries]
  rfl

theorem State.agent_of_agents (agents : t.agents = s.agents) (a : AgentId) : t.agent a = s.agent a := by
  rw [State.agent, agents]
  rfl

theorem State.window_of_windows (windows : t.windows = s.windows) (k : SlotId) : t.window k = s.window k := by
  rw [State.window, windows]
  rfl

/-! #### Changes beside the claims -/

/-- Only windows have changed. -/
theorem State.Upholds.of_windows (entries : t.entries = s.entries) (agents : t.agents = s.agents)
    (slots : p → s.Fits → ∀ k, s.SlotFits k (t.window k)) : s.Upholds p t where
  counted h := h.of_counts (fun a => by rw [State.agent_of_agents agents])
    (fun a count => by simpa only [State.liveCount, State.entry_of_entries entries, State.agent_of_agents agents])
    (fun a => by simp only [State.liveCount, State.entry_of_entries entries, le_refl])
    (fun i => by rw [State.entry_of_entries entries]; exact fun used => ⟨used, rfl⟩)
  queues h := h.of_same fun i => by simp only [State.entry_of_entries entries, and_self]
  distinct h := h.of_live fun i live => by
    rw [State.entry_of_entries entries] at live ⊢
    exact ⟨live, rfl, rfl⟩
  fits whole fits := fits.of_windows entries (slots whole fits)

/-- Windows, entries and agents are kept. -/
theorem State.Upholds.of_tables (windows : t.windows = s.windows) (entries : t.entries = s.entries)
    (agents : t.agents = s.agents) : s.Upholds p t :=
  .of_windows entries agents fun _ fits k => by
    rw [State.window_of_windows windows]
    exact fits.slots k

/-- A note is made on entries: countdown, outcome or notice, and nothing that a rule on claims looks at. -/
theorem State.Upholds.of_notes (windows : t.windows = s.windows) (agents : t.agents = s.agents)
    (same : ∀ i, (t.entry i).state = (s.entry i).state ∧ (t.entry i).agent = (s.entry i).agent
      ∧ (t.entry i).slot = (s.entry i).slot ∧ (t.entry i).kind = (s.entry i).kind
      ∧ (t.entry i).arrival = (s.entry i).arrival) : s.Upholds True t := by
  have live (i : EntryId) : (t.entry i).live = (s.entry i).live := by simp only [Entry.live, (same i).1]
  have count (a : AgentId) : t.liveCount a = s.liveCount a := by
    simp only [State.liveCount, live, (same _).2.1]
  refine ⟨fun h => h.of_counts (fun a => by rw [State.agent_of_agents agents])
    (fun a h => by rwa [count, State.agent_of_agents agents]) (fun a => (count a).le) fun i used => ?_,
    fun h => h.of_same fun i => ?_, fun h => h.of_live fun i here => ?_, fun _ fits => ?_⟩
  · obtain ⟨state, agent, _⟩ := same i
    exact ⟨state ▸ used, agent⟩
  · obtain ⟨state, _, slot, _, arrival⟩ := same i
    exact ⟨state, slot, arrival⟩
  · obtain ⟨_, agent, slot, _⟩ := same i
    exact ⟨live i ▸ here, agent, slot⟩
  · refine fits.of_entries (State.window_of_windows windows) fun i _ => ?_
    obtain ⟨state, _, slot, kind, _⟩ := same i
    exact ⟨state, slot, kind⟩

/-! #### An entry that ends or becomes FREE (R95, R96) -/

/-- A live entry that leaves its queue and its agent's count, or an entry that was neither, is gone. -/
theorem State.Leaves.upholds {i : EntryId} (leaves : s.Leaves i t) (windows : t.windows = s.windows)
    (gone : (t.entry i).live = false)
    (used : (t.entry i).state ≠ .free → (s.entry i).state ≠ .free ∧ (t.entry i).agent = (s.entry i).agent)
    (agents : ∀ a, t.agent a
      = if (s.entry i).live = true ∧ (s.entry i).agent = a then { s.agent a with inUse := (s.agent a).inUse - 1 }
        else s.agent a) : s.Upholds True t := by
  have counts (a : AgentId) := leaves.countP (p := fun e => e.live && e.agent == a) fun _ _ => rfl
  have live {j : EntryId} (here : (t.entry j).live = true) : i ≠ j := fun e => by
    rw [← e, gone] at here
    cases here
  have same {j : EntryId} (ne : i ≠ j) := leaves.other ne
  refine ⟨fun h => h.of_counts (fun a => ?_) (fun a count => ?_) (fun a => ?_) (fun j inPlay => ?_),
    fun h => h.leaves leaves, fun h => h.of_live fun j here => ?_, fun _ fits => ?_⟩
  · rw [agents]
    split <;> rfl
  · have step := counts a
    simp only [State.liveCount] at count ⊢
    rw [agents]
    by_cases mine : (s.entry i).live = true ∧ (s.entry i).agent = a
    · rw [if_pos mine]
      simp only [gone, mine, Bool.false_and, beq_self_eq_true, Bool.and_true, Bool.toNat_true, Bool.toNat_false] at step
      dsimp only
      omega
    · have out : ((s.entry i).live && (s.entry i).agent == a) = false := by simpa using mine
      rw [if_neg mine, count]
      simpa [gone, out] using step.symm
  · have step := counts a
    simp only [gone, Bool.false_and, Bool.toNat_false] at step
    simp only [State.liveCount]
    omega
  · by_cases e : i = j
    · exact e ▸ used (e ▸ inPlay)
    · rw [same e] at inPlay ⊢
      exact ⟨inPlay, rfl⟩
  · have kept := same (live here)
    rw [kept] at here ⊢
    exact ⟨here, rfl, rfl⟩
  · refine fits.of_entries (State.window_of_windows windows) fun j here => ?_
    rw [same (live here)]
    exact ⟨rfl, rfl, rfl⟩

theorem State.endEntry_upholds {i : EntryId} (live : (s.entry i).live = true) (o : EOutcome) :
    s.Upholds True (s.endEntry i o) := by
  have ended : (s.endEntry i o).entry i = (s.entry i).gone o := by rw [State.entry_endEntry, if_pos rfl]
  refine (s.leaves_endEntry i o).upholds (s.endEntry_windows i o) (by rw [ended]; rfl) (fun _ => ?_) fun a => ?_
  · rw [ended]
    exact ⟨fun free => by simp [Entry.live, free] at live, rfl⟩
  · rw [State.agent_endEntry]
    simp only [live, true_and]

theorem State.freeEntry_upholds (s : State) (i : EntryId) : s.Upholds True (s.freeEntry i) := by
  have freed : (s.freeEntry i).entry i = Entry.free := by rw [State.entry_freeEntry, if_pos rfl]
  exact (s.leaves_freeEntry i).upholds (s.freeEntry_windows i) (by rw [freed]; rfl)
    (fun used => by rw [freed] at used; exact absurd rfl used) (s.agent_freeEntry i)

/-! #### An entry that comes to be HELD or WAITING (R100, R101, R105) -/

/-- One entry, not HELD before, has become WAITING or HELD on an OPEN window with room for it. -/
theorem State.Fits.enters {i : EntryId} {k : SlotId} (fits : s.Fits) (windows : t.windows = s.windows)
    (others : ∀ j, i ≠ j → t.entry j = { s.entry j with arrival := (t.entry j).arrival })
    (before : (s.entry i).state ≠ .held) (slot : (t.entry i).slot = k) (opened : (s.window k).state = .opened)
    (room : (t.entry i).state = .held → s.HasRoom k (t.entry i).kind) : t.Fits := by
  have window := State.window_of_windows windows
  have count (j : SlotId) : t.heldCount j
      = s.heldCount j + ((t.entry i).state == .held && (t.entry i).slot == j).toNat := by
    have change := countP_finRange_change (p := fun m => (s.entry m).state == .held && (s.entry m).slot == j)
      (q := fun m => (t.entry m).state == .held && (t.entry m).slot == j) i fun m ne => by rw [others m ne]
    simpa [State.heldCount, beq_eq_false_iff_ne.mpr before] using change
  have elsewhere {j : SlotId} (ne : k ≠ j) : t.heldCount j = s.heldCount j := by
    rw [count, slot, beq_eq_false_iff_ne.mpr ne, Bool.and_false]
    rfl
  refine ⟨fun j => ⟨fun m waits here => ?_, fun m holds here => ?_, ?_, ?_⟩, fun j writes => ?_⟩
  · rw [window]
    by_cases e : i = m
    · exact .inl (by rw [← here, ← e, slot, opened])
    · rw [others m e] at waits here
      exact (fits.slots j).waits m waits here
  · rw [window]
    by_cases e : i = m
    · exact .inl (by rw [← here, ← e, slot, opened])
    · rw [others m e] at holds here
      exact (fits.slots j).holds m holds here
  · rw [window]
    by_cases e : k = j
    · subst e
      rw [count]
      by_cases holds : (t.entry i).state = .held
      · have least := (fits.slots k).room (by simp [opened])
        have place := room holds
        cases kind : (t.entry i).kind <;> simp only [kind, State.HasRoom] at place <;> simp [holds, slot] <;> omega
      · simpa [beq_eq_false_iff_ne.mpr holds] using (fits.slots k).held
    · rw [elsewhere e]
      exact (fits.slots j).held
  · rw [window]
    exact (fits.slots j).room
  · obtain ⟨m, holds, here, kind⟩ := State.writeHeld_iff.mp writes
    by_cases e : i = m
    · subst e
      have place := room holds
      rw [kind] at place
      rw [count, ← here, slot, show s.heldCount k = 0 from place, holds]
      simp
    · rw [others m e] at holds here kind
      have writes' := State.writeHeld_iff.mpr ⟨m, holds, here, kind⟩
      have one := fits.alone j writes'
      by_cases both : (t.entry i).state = .held ∧ k = j
      · obtain ⟨held, rfl⟩ := both
        have place := room held
        cases kind' : (t.entry i).kind <;> simp only [kind', State.HasRoom] at place
        · rw [place.1] at writes'
          cases writes'
        · omega
      · rw [count, slot, one]
        simpa using both

/-- The head of a queue is granted where the window is OPEN and has room (R103, R105). -/
theorem State.grantEntry_upholds {i : EntryId} (waits : (s.entry i).state = .waiting)
    (opened : (s.window (s.entry i).slot).state = .opened) (room : s.HasRoom (s.entry i).slot (s.entry i).kind) :
    s.Upholds True (s.grantEntry i) := by
  have leaves := State.leaves_grantEntry waits
  have granted := s.entry_grantEntry_self i
  have count (a : AgentId) : (s.grantEntry i).liveCount a = s.liveCount a := by
    have change := leaves.countP (p := fun e => e.live && e.agent == a) fun _ _ => rfl
    rw [granted] at change
    simpa [State.liveCount, Entry.live, waits] using change
  have live (j : EntryId) : ((s.grantEntry i).entry j).live = (s.entry j).live
      ∧ ((s.grantEntry i).entry j).agent = (s.entry j).agent ∧ ((s.grantEntry i).entry j).slot = (s.entry j).slot := by
    by_cases e : i = j
    · subst e
      simp [granted, Entry.live, waits]
    · rw [leaves.other e]
      exact ⟨rfl, rfl, rfl⟩
  refine ⟨fun h => h.of_counts (fun a => rfl) (fun a h => h.trans (count a).symm) (fun a => (count a).le)
    fun j used => ?_, fun h => h.leaves leaves, fun h => h.of_live fun j here => ?_, fun _ fits => ?_⟩
  · by_cases e : i = j
    · subst e
      exact ⟨by simp [waits], (live i).2.1⟩
    · rw [leaves.other e] at used ⊢
      exact ⟨used, rfl⟩
  · obtain ⟨same, agent, slot⟩ := live j
    exact ⟨same ▸ here, agent, slot⟩
  · refine fits.enters (s.grantEntry_windows i) (fun j ne => leaves.other ne) (by simp [waits])
      (by rw [granted]) opened fun _ => ?_
    rw [granted]
    exact room

/-- One entry that was not WAITING has joined the tail of a queue, or stands in none (R97, R101). -/
theorem QueuesOrdered.enters {i : EntryId} (queues : QueuesOrdered s) (others : ∀ j, i ≠ j → t.entry j = s.entry j)
    (before : (s.entry i).state ≠ .waiting)
    (tail : (t.entry i).state = .waiting → (t.entry i).arrival = s.waitingCount (t.entry i).slot + 1)
    (apart : (t.entry i).state ≠ .waiting → (t.entry i).arrival = 0) : QueuesOrdered t := by
  obtain ⟨range, once, none⟩ := queues
  have count (k : SlotId) : t.waitingCount k
      = s.waitingCount k + ((t.entry i).state == .waiting && (t.entry i).slot == k).toNat := by
    have change := countP_finRange_change (p := fun m => (s.entry m).state == .waiting && (s.entry m).slot == k)
      (q := fun m => (t.entry m).state == .waiting && (t.entry m).slot == k) i fun m ne => by rw [others m ne]
    simpa [State.waitingCount, beq_eq_false_iff_ne.mpr before] using change
  /- Nobody else has the number of the new tail. -/
  have new {j : EntryId} (ne : i ≠ j) (waits : (t.entry i).state = .waiting) (waits' : (t.entry j).state = .waiting)
      (slot : (t.entry i).slot = (t.entry j).slot) : (t.entry i).arrival ≠ (t.entry j).arrival := by
    rw [others j ne] at waits' slot ⊢
    have bounds := range j waits'
    rw [tail waits, slot]
    omega
  refine ⟨fun j waits => ?_, fun j j' waits waits' slot arrival => ?_, fun j settled => ?_⟩
  · by_cases e : i = j
    · subst e
      rw [tail waits, count]
      simp [waits]
    · rw [others j e] at waits ⊢
      have bounds := range j waits
      rw [count]
      omega
  · by_cases e : i = j
    · by_cases e' : i = j'
      · exact e.symm.trans e'
      · subst e
        exact absurd arrival (new e' waits waits' slot)
    · by_cases e' : i = j'
      · subst e'
        exact absurd arrival.symm (new e waits' waits slot.symm)
      · rw [others j e] at waits slot arrival
        rw [others j' e'] at waits' slot arrival
        exact once j j' waits waits' slot arrival
  · by_cases e : i = j
    · subst e
      exact apart settled
    · rw [others j e] at settled ⊢
      exact none j settled

/-- A FREE entry is taken for an agent that may have one more, on an OPEN window on which it has none (R98 to R101). -/
theorem State.takeEntry_upholds {i : EntryId} {e : Entry} (free : (s.entry i).state = .free) (live : e.live = true)
    (enabled : (s.agent e.agent).enabled = true) (quota : (s.agent e.agent).inUse < (s.agent e.agent).quota)
    (first : s.findClaim e.agent e.slot = none) (opened : (s.window e.slot).state = .opened)
    (tail : e.state = .waiting → e.arrival = s.waitingCount e.slot + 1) (apart : e.state ≠ .waiting → e.arrival = 0)
    (room : e.state = .held → s.HasRoom e.slot e.kind) :
    s.Upholds True ((s.putEntry i e).incInUse e.agent) := by
  have taken : ((s.putEntry i e).incInUse e.agent).entry i = e := State.entry_putEntry_self _ _ _
  have others (j : EntryId) (ne : i ≠ j) : ((s.putEntry i e).incInUse e.agent).entry j = s.entry j := by
    rw [State.incInUse_entry, State.entry_putEntry, if_neg ne]
  have agents (a : AgentId) : ((s.putEntry i e).incInUse e.agent).agent a
      = if e.agent = a then { s.agent a with inUse := (s.agent a).inUse + 1 } else s.agent a := by
    rw [State.incInUse, State.agent_putAgent]
    split <;> simp_all
  have count (a : AgentId) : ((s.putEntry i e).incInUse e.agent).liveCount a
      = s.liveCount a + (e.agent == a).toNat := by
    have change := countP_finRange_change (p := fun m => (s.entry m).live && (s.entry m).agent == a)
      (q := fun m => (((s.putEntry i e).incInUse e.agent).entry m).live
        && (((s.putEntry i e).incInUse e.agent).entry m).agent == a) i fun m ne => by rw [others m ne]
    have idle : (s.entry i).live = false := Entry.live_eq_false.mpr (by simp [free])
    simpa [State.liveCount, taken, live, idle] using change
  refine ⟨fun counted a => ?_, fun queues => ?_, fun distinct => ?_, fun _ fits => ?_⟩
  · obtain ⟨inUse, le, limit, off⟩ := counted a
    rw [agents, count]
    by_cases mine : e.agent = a
    · subst mine
      rw [if_pos rfl, beq_self_eq_true, Bool.toNat_true, inUse]
      exact ⟨rfl, by dsimp only; omega, limit, fun disabled => by simp [enabled] at disabled⟩
    · rw [if_neg mine, beq_eq_false_iff_ne.mpr mine]
      refine ⟨inUse, le, limit, fun disabled j used => ?_⟩
      by_cases here : i = j
      · rwa [← here, taken]
      · rw [others j here] at used ⊢
        exact off disabled j used
  · exact queues.enters others (by simp [free]) (by rw [taken]; exact tail) (by rw [taken]; exact apart)
  · have other {j : EntryId} (ne : i ≠ j) (here : (s.entry j).live = true) (agent : (s.entry j).agent = e.agent) :
        (s.entry j).slot ≠ e.slot := State.findClaim_eq_none.mp first j here agent
    intro j j' here there agent slot
    by_cases e₁ : i = j
    · by_cases e₂ : i = j'
      · exact e₁.symm.trans e₂
      · subst e₁
        rw [taken, others j' e₂] at agent slot
        rw [others j' e₂] at there
        exact absurd slot.symm (other e₂ there agent.symm)
    · rw [others j e₁] at here agent slot
      by_cases e₂ : i = j'
      · subst e₂
        rw [taken] at agent slot
        exact absurd slot (other e₁ here agent)
      · rw [others j' e₂] at there agent slot
        exact distinct j j' here there agent slot
  · refine fits.enters (k := e.slot) (State.incInUse_windows _ _) (fun j ne => by rw [others j ne]) (by simp [free])
      (by rw [taken]) opened ?_
    rw [taken]
    exact room

/-! #### Agent records, and the clearing of the tables (R128, R132, R133) -/

/-- An agent record is loaded with its count, its quota not below it, and disabled only without an entry in use. -/
theorem State.putAgent_upholds {a : AgentId} {r : AgentRecord}
    (count : (s.agent a).inUse = s.liveCount a → r.inUse = s.liveCount a) (room : r.inUse ≤ r.quota)
    (limit : r.quota ≤ 8) (off : r.enabled = false → ∀ i, (s.entry i).state ≠ .free → (s.entry i).agent ≠ a) :
    s.Upholds True (s.putAgent a r) where
  counted h b := by
    rw [State.agent_putAgent]
    split
    · rename_i e
      subst e
      exact ⟨count (h a).1, room, limit, off⟩
    · exact h b
  queues := id
  distinct := id
  fits _ fits := fits.of_windows rfl fits.slots

/-- Every entry and every window is FREE, and no agent has a claim in use. -/
theorem State.Upholds.of_cleared (entries : ∀ i, t.entry i = Entry.free) (windows : ∀ k, t.window k = Window.free)
    (agents : ∀ a, (t.agent a).inUse = 0 ∧ (t.agent a).quota ≤ (s.agent a).quota) : s.Upholds p t := by
  have live (i : EntryId) : (t.entry i).live = false := by rw [entries]; rfl
  have none (a : AgentId) : t.liveCount a = 0 := countP_finRange_eq_zero.mpr fun i => by rw [live]; rfl
  refine ⟨fun h a => ⟨?_, ?_, (agents a).2.trans (h a).2.2.1, fun _ i used => ?_⟩,
    fun _ => ⟨fun i waits => ?_, fun i _ waits => ?_, fun i _ => by rw [entries]; rfl⟩, fun _ i _ here => ?_,
    fun _ _ => ⟨fun k => .unclaimed (fun i here => ?_) fun inPlay => ?_, fun k writes => ?_⟩⟩
  · rw [none, (agents a).1]
  · rw [(agents a).1]
    exact Nat.zero_le _
  · rw [entries] at used
    exact absurd rfl used
  · rw [entries] at waits
    cases waits
  · rw [entries] at waits
    cases waits
  · rw [live] at here
    cases here
  · rw [live] at here
    cases here
  · rw [windows] at inPlay
    exact absurd rfl inPlay
  · obtain ⟨i, holds, _⟩ := State.writeHeld_iff.mp writes
    rw [entries] at holds
    cases holds

end

end Sys2Proof.Machine

/-! ### The operations on claims and on units uphold the claims (R97, R103 to R109, R126, R133) -/

namespace Sys2Proof.Machine

/-! #### Passes and endings -/

section
variable {p : Prop} {s t : State} {k : SlotId}

/-- A chain of events leaves the groups whole. -/
theorem State.Events.groups (events : s.Events (fun _ => True) t) (groups : GroupsAgree s) : GroupsAgree t :=
  events.keeps_of_moves (P := GroupsAgree) (fun m g => g.move m) (fun low g => g.of_states low.states) groups

theorem State.passLoop_upholds (fuel : Nat) (s : State) (opened : (s.window k).state = .opened) :
    s.Upholds True (State.passLoop k fuel s) := by
  induction fuel generalizing s with
  | zero => exact .refl s
  | succ n ih =>
    unfold State.passLoop
    split
    · exact .refl s
    · rename_i i head
      obtain ⟨waits, rfl⟩ := State.queueHead_some head
      split
      · rename_i kind
        split
        · rename_i room
          exact State.grantEntry_upholds waits opened (by rw [kind]; exact room)
        · exact .refl s
      · rename_i kind
        split
        · rename_i room
          exact (State.grantEntry_upholds waits opened (by rw [kind]; exact room)).next (ih _ opened)
        · exact .refl s

theorem State.grantPass_upholds (s : State) (k : SlotId) : s.Upholds True (s.grantPass k) := by
  unfold State.grantPass
  split
  · exact State.passLoop_upholds 48 s ‹_›
  · exact .refl s

theorem State.endWhere_upholds {test : Entry → Bool} (live : ∀ e, test e = true → e.live = true) (o : EOutcome)
    (s : State) : s.Upholds True (s.endWhere test o) :=
  State.Upholds.foldl (f := fun t i => if test (t.entry i) then t.endEntry i o else t) (fun t i => by
    split
    · exact State.endEntry_upholds (live _ ‹_›) o
    · exact .refl t) _ s

/-- The loss of a claim: a pass on an OPEN window, or the freeing of a DRAINING unit without a holder, which has no
WAITING entry either (R104, R109). -/
theorem State.afterLoss_upholds (s : State) (k : SlotId) : s.Upholds (GroupsAgree s) (s.afterLoss k) := by
  by_cases drains : (s.window k).state = .draining
  · rw [State.afterLoss_draining drains]
    split
    · exact .refl s
    · rename_i unheld
      refine .of_windows (s.modifyWindows_entries _ _) (s.modifyWindows_agents _ _) fun groups fits j => ?_
      rw [State.clearSlots, State.window_modifyWindows (s.unitSlots_nodup _)]
      split
      · rename_i mem
        have owner : (s.window (s.owner k)).state = .draining := by
          rcases groups.unit_agrees (s.owner_owner k) (groups.mem_unitSlots_owner k) with same | ⟨frozen, _⟩
          · rw [← same, drains]
          · rw [drains] at frozen
            cases frozen
        have here : (s.window j).state = .draining :=
          (groups.unit_state (s.owner_owner k) (by simp [owner]) mem).trans owner
        refine .unclaimed (fun i live slot => ?_) fun live => absurd rfl live
        rcases Entry.live_iff.mp live with waits | holds
        · have service := (fits.slots j).waits i waits slot
          simp [here] at service
        · exact unheld (State.anyHeld_iff.mpr ⟨i, holds, slot ▸ mem⟩)
      · exact fits.slots j
  · by_cases opened : (s.window k).state = .opened
    · rw [State.afterLoss_opened opened]
      exact (s.grantPass_upholds k).given
    · rw [State.afterLoss_other opened drains]
      exact .refl s

theorem State.foldl_afterLoss_upholds (ks : List SlotId) (s : State) :
    s.Upholds (GroupsAgree s) (ks.foldl State.afterLoss s) := by
  induction ks generalizing s with
  | nil => exact .refl s
  | cons k ks ih => exact (s.afterLoss_upholds k).trans (ih _) (s.afterLoss_events k).groups

/-! #### Windows that keep their claims -/

/-- A change of record that every claim on the window survives: of the claim limit none, of the state none but of a
window in use, to OPEN or FROZEN. -/
def Window.Serves (w v : Window) : Prop :=
  v.claimLimit = w.claimLimit ∧ (v.state = w.state ∨ (w.state ≠ .free ∧ (v.state = .opened ∨ v.state = .frozen)))

theorem State.SlotFits.of_serves {w v : Window} (fits : s.SlotFits k w) (serves : w.Serves v) : s.SlotFits k v := by
  obtain ⟨limit, same | ⟨live, service⟩⟩ := serves
  · exact fits.same same limit
  · exact fits.serves live service limit

theorem State.modifyWindow_upholds (k : SlotId) {f : Window → Window} (serves : (s.window k).Serves (f (s.window k))) :
    s.Upholds p (s.modifyWindow k f) :=
  .of_windows rfl rfl fun _ fits j => by
    rw [State.window_modifyWindow]
    split
    · rename_i e
      exact e ▸ (fits.slots k).of_serves serves
    · exact fits.slots j

theorem State.modifyWindows_upholds {f : Window → Window} (serves : ∀ w : Window, w.Serves (f w)) (ks : List SlotId)
    (s : State) : s.Upholds True (s.modifyWindows ks f) :=
  State.Upholds.foldl (f := fun t k => t.modifyWindow k f) (fun t k => t.modifyWindow_upholds k (serves _)) ks s

theorem Window.serves_freeze (w : Window) : w.Serves w.freeze := by
  unfold Window.freeze
  split
  · rename_i opened
    exact ⟨rfl, .inr ⟨by simp [opened], .inr rfl⟩⟩
  · exact ⟨rfl, .inl rfl⟩

theorem Window.serves_openAtTick (w : Window) : w.Serves w.openAtTick := by
  unfold Window.openAtTick
  split
  · rename_i armed
    exact ⟨rfl, .inr ⟨by simp [armed], .inl rfl⟩⟩
  · exact ⟨rfl, .inl rfl⟩

theorem Window.serves_countDown (w : Window) : w.Serves w.countDown := by
  unfold Window.countDown
  split <;> exact ⟨rfl, .inl rfl⟩

/-- An adjustment of a record changes neither its state nor its claim limit. -/
theorem Window.Adjusts.serves {limit : Nat} {w v : Window} (adjusts : w.Adjusts limit v) : w.Serves v := by
  refine ⟨?_, .inl adjusts.states.1⟩
  have committed (x : Window) : x.commit.claimLimit = x.claimLimit := by
    unfold Window.commit
    split <;> rfl
  cases adjusts with
  | used =>
    unfold Window.used
    split <;> rfl
  | commit => exact committed w
  | restart p =>
    unfold Window.restart
    split
    · split
      · rfl
      · simp only
        split
        · exact committed _
        · rfl
    · rfl
  | advance p =>
    unfold Window.advance
    split
    · split
      · rfl
      · split <;> rfl
    · rfl
  | renew | writeActive | writeShadow | released | drainLoaded | drainCounted => rfl

theorem State.freezeUnit_upholds (s : State) (h : SlotId) : s.Upholds True (s.freezeUnit h) :=
  State.modifyWindows_upholds Window.serves_freeze _ s

/-- No claim stands on a unit that is STAGED or ARMED, so its records may change their state (R20, R21). -/
theorem State.modifyUnit_upholds {h : SlotId} {f : Window → Window} (own : s.owner h = h)
    (early : (s.window h).state = .staged ∨ (s.window h).state = .armed)
    (limit : ∀ w : Window, (f w).claimLimit = w.claimLimit) :
    s.Upholds (GroupsAgree s) (s.modifyWindows (s.unitSlots h) f) :=
  .of_windows (s.modifyWindows_entries _ _) (s.modifyWindows_agents _ _) fun groups fits j => by
    rw [State.window_modifyWindows (s.unitSlots_nodup h)]
    split
    · rename_i mem
      have same := groups.unit_state own (by rcases early with e | e <;> simp [e]) mem
      have closed : ∀ c, c = .free ∨ c = .opened ∨ c = .frozen ∨ c = .draining → (s.window j).state ≠ c := by
        rintro c (rfl | rfl | rfl | rfl) <;> rw [same] <;> rcases early with e | e <;> simp [e]
      refine .unclaimed ((fits.slots j).no_claim (closed _ (by simp)) (closed _ (by simp)) (closed _ (by simp)))
        fun _ => ?_
      rw [limit]
      exact (fits.slots j).room (closed _ (by simp))
    · exact fits.slots j

theorem Window.activate_claimLimit (mode : LeaseMode) (w : Window) : (w.activate mode).claimLimit = w.claimLimit := by
  cases mode <;> rcases walk : w.walk with _ | _ <;> simp [Window.activate, walk]

theorem State.activateUnit_upholds {h : SlotId} (alone : (s.window h).isMember = false)
    (staged : (s.window h).state = .staged) : s.Upholds (GroupsAgree s) (s.activateUnit h) :=
  State.modifyUnit_upholds (State.owner_self alone) (.inl staged) (Window.activate_claimLimit _)

/-! #### Units that drain or become FREE (R107, R108, R122, R126) -/

/-- Slots whose claims have ended become FREE. -/
theorem State.goneSlots_upholds {ks : List SlotId} (nodup : ks.Nodup) (s : State) :
    s.Upholds True ((s.endClaims ks).clearSlots ks) := by
  refine (State.endWhere_upholds (fun e live => (Bool.and_eq_true_iff.mp live).1) .windowGone s).next
    (.of_windows (State.modifyWindows_entries _ _ _) (State.modifyWindows_agents _ _ _) fun _ fits j => ?_)
  rw [← State.endClaims, State.clearSlots, State.window_modifyWindows nodup]
  split
  · rename_i mem
    refine .unclaimed (fun i live slot => ?_) fun live => absurd rfl live
    obtain ⟨entry, _⟩ := s.endWhere_claimsGone ks true
    rw [State.endClaims_eq, entry i] at live slot
    split at live
    · cases live
    · rename_i stays
      rw [if_neg stays] at slot
      exact stays (by simpa [slot, mem] using Entry.live_iff.mp live)
  · exact fits.slots j

theorem State.goneUnit_upholds (s : State) (h : SlotId) : s.Upholds True (s.goneUnit h) :=
  State.goneSlots_upholds (s.unitSlots_nodup h) s

/-- A unit in use drains: its WAITING entries have ended, and its HELD ones stay. -/
theorem State.drainUnit_upholds {h : SlotId} (live : (s.window h).state ≠ .free) : s.Upholds True (s.drainUnit h) := by
  have ended := State.endWhere_upholds (test := fun e => e.state == .waiting && (s.unitSlots h).contains e.slot)
    (fun e waits => by simp only [Bool.and_eq_true] at waits; simp [Entry.live, waits.1]) .windowGone s
  have drained : (s.endWaits (s.unitSlots h)).Upholds True
      ((s.endWaits (s.unitSlots h)).modifyWindows (s.unitSlots h) fun w => { w with state := .draining }) := by
    refine .of_windows (State.modifyWindows_entries _ _ _) (State.modifyWindows_agents _ _ _) fun _ fits j => ?_
    rw [State.window_modifyWindows (s.unitSlots_nodup h)]
    split
    · rename_i mem
      have inUse : ((s.endWaits (s.unitSlots h)).window j).state ≠ .free := by
        rw [State.endWaits, State.endWhere_window]
        exact State.unitSlots_live mem live
      have place := fits.slots j
      generalize (s.endWaits (s.unitSlots h)).window j = w at place inUse ⊢
      refine place.drains inUse rfl rfl fun i waits slot => ?_
      obtain ⟨entry, _⟩ := s.endWhere_claimsGone (s.unitSlots h) false
      rw [State.endWaits_eq, entry i] at waits slot
      split at waits
      · cases waits
      · rename_i stays
        rw [if_neg stays] at slot
        exact stays (by simp [waits, slot, mem])
    · exact fits.slots j
  have loaded (t : State) : t.Upholds True (t.modifyWindow h fun w => { w with drainCount := s.drainLimit }) :=
    State.modifyWindow_upholds h ⟨rfl, .inl rfl⟩
  exact (ended.next drained).next (loaded _)

theorem State.retireUnit_upholds (s : State) (h : SlotId) (force : Bool) : s.Upholds True (s.retireUnit h force) := by
  unfold State.retireUnit
  split
  · rename_i drains
    exact State.drainUnit_upholds (by rcases drains.1 with e | e <;> simp [e])
  · exact s.goneUnit_upholds h

theorem State.expireLease_upholds (s : State) (h : SlotId) : s.Upholds True (s.expireLease h) := by
  have acted : s.Upholds True (s.leaseAction h) := by
    unfold State.leaseAction
    split
    · have loaded : s.Upholds True (s.modifyWindow h fun w => { w with leaseCount := w.leaseReload }) :=
        State.modifyWindow_upholds h ⟨rfl, .inl rfl⟩
      exact loaded.next (.of_tables rfl rfl rfl)
    · exact s.freezeUnit_upholds h
    · exact s.retireUnit_upholds h false
  exact acted.next (.of_tables rfl rfl rfl)

/-! #### The ticks (R64 to R67, R113) -/

theorem State.idleOutUnit_upholds (s : State) (h : SlotId) : s.Upholds True (s.idleOutUnit h) :=
  (s.freezeUnit_upholds h).next (.of_tables rfl rfl rfl)

theorem State.idleOutAlone_upholds (s : State) (k : SlotId) : s.Upholds True (s.idleOutAlone k) :=
  (State.modifyWindow_upholds k (s.window k).serves_freeze).next (.of_tables rfl rfl rfl)

theorem State.tickOpen_upholds (s : State) (h : SlotId) : s.Upholds True (s.tickOpen h) := by
  have counted : s.Upholds True (s.countedUnit h) := State.modifyWindows_upholds Window.serves_countDown _ s
  have leased : s.Upholds True (s.leasedUnit h) := by
    unfold State.leasedUnit
    split
    · exact counted.next (State.expireLease_upholds _ h)
    · exact counted
  have headed : s.Upholds True (s.headedUnit h) := by
    unfold State.headedUnit
    split
    · exact leased.next (State.idleOutUnit_upholds _ h)
    · exact leased
  exact headed.next (State.Upholds.foldl (fun t k => by
    split
    · exact t.idleOutAlone_upholds k
    · exact .refl t) _ _)

theorem State.tickDraining_upholds (s : State) (h : SlotId) : s.Upholds True (s.tickDraining h) := by
  have counted : s.Upholds True (s.modifyWindow h fun w => { w with drainCount := w.drainCount - 1 }) :=
    State.modifyWindow_upholds h ⟨rfl, .inl rfl⟩
  simp only [State.tickDraining]
  split
  · exact (counted.next (State.goneUnit_upholds _ h)).next (.of_tables rfl rfl rfl)
  · exact counted

theorem State.tickUnit_upholds (s : State) (h : SlotId) : s.Upholds True (s.tickUnit h) := by
  unfold State.tickUnit
  split
  · exact State.modifyWindows_upholds Window.serves_openAtTick _ s
  · exact s.tickOpen_upholds h
  · exact s.tickDraining_upholds h
  all_goals exact .refl s

theorem State.windowTick_upholds (s : State) : s.Upholds True s.windowTick := by
  have taken : s.Upholds True { s with timebase := { s.timebase with windowTicks := s.timebase.windowTicks - 1 } } :=
    .of_tables rfl rfl rfl
  refine taken.next (State.Upholds.foldl (fun t k => ?_) _ _)
  split
  · exact .refl t
  · exact t.tickUnit_upholds k

theorem Entry.countDown_eq (e : Entry) : e.countDown = { e with countdown := e.countDown.countdown } := by
  unfold Entry.countDown
  split <;> rfl

theorem State.claimCounted_upholds (s : State) : s.Upholds True s.claimCounted :=
  .of_notes rfl rfl fun i => by
    rw [State.entry_claimCounted, Entry.countDown_eq]
    exact ⟨rfl, rfl, rfl, rfl, rfl⟩

theorem State.endTimedOut_upholds (s : State) : s.Upholds True s.endTimedOut := by
  have raised : s.Upholds True s.revocationRaised := by
    unfold State.revocationRaised
    split
    · exact .of_tables rfl rfl rfl
    · exact .refl s
  exact (raised.next (State.endWhere_upholds Entry.picks_holdOut.live .revoked _)).next
    (State.endWhere_upholds Entry.picks_waitOut.live .waitExpired _)

theorem State.claimTick_upholds (s : State) : s.Upholds (GroupsAgree s) s.claimTick := by
  have ended := s.claimCounted_upholds.next s.claimCounted.endTimedOut_upholds
  have kept : s.Keeps s.claimCounted.endTimedOut :=
    State.Keeps.trans (t := s.claimCounted) ⟨rfl, rfl, rfl⟩ s.claimCounted.endTimedOut_keeps_tables
  exact ended.given.trans (State.foldl_afterLoss_upholds s.claimCounted.lossSlots _) kept.events.groups

/-! #### Agent records (R131 to R133) -/

/-- What the checks of an accepted AGENT SET say (R131). -/
theorem State.agentCheck_eq_ok {agent enabled cls lane quota : Byte} {a : AgentId} {r : AgentRecord}
    (ok : s.agentCheck agent enabled cls lane quota = .ok (a, r)) :
    r.quota ≤ 8 ∧ (r.enabled = true → (s.agent a).inUse ≤ r.quota) := by
  unfold State.agentCheck at ok
  split at ok
  · cases ok
  · split at ok
    · rename_i ranges
      dsimp only at ok
      split at ok
      · cases ok
      · rename_i fits
        cases ok
        exact ⟨ranges.2.2.2, fun on => Nat.le_of_not_lt fun less => fits ⟨on, .inr less⟩⟩
    · cases ok

/-- The entry becomes FREE if it is in use for the agent (R133). -/
def State.freeOwn (a : AgentId) (s : State) (i : EntryId) : State :=
  if (s.entry i).state ≠ .free ∧ (s.entry i).agent = a then s.freeEntry i else s

theorem State.freeAgentEntries_eq (s : State) (a : AgentId) :
    s.freeAgentEntries a = (List.finRange 48).foldl (State.freeOwn a) s := rfl

/-- The entry is not in use for the agent. -/
def State.Unused (s : State) (a : AgentId) (i : EntryId) : Prop := (s.entry i).state ≠ .free → (s.entry i).agent ≠ a

theorem State.unused_freeOwn (s : State) (a : AgentId) (i : EntryId) : (s.freeOwn a i).Unused a i := by
  unfold State.freeOwn
  split
  · intro used
    rw [State.entry_freeEntry, if_pos rfl] at used
    exact absurd rfl used
  · rename_i other
    exact fun used mine => other ⟨used, mine⟩

theorem State.Unused.freeOwn {a : AgentId} {i : EntryId} (unused : s.Unused a i) (j : EntryId) :
    (s.freeOwn a j).Unused a i := by
  by_cases e : j = i
  · exact e ▸ s.unused_freeOwn a j
  · unfold State.freeOwn
    split
    · unfold State.Unused
      rw [(s.leaves_freeEntry j).other e]
      exact unused
    · exact unused

/-- The agent's entries become FREE, one after another, and none of it is in use then. -/
theorem State.unused_freeAgentEntries (s : State) (a : AgentId) (i : EntryId) :
    (s.freeAgentEntries a).Unused a i := by
  have all (is : List EntryId) (t : State) (done : i ∈ is ∨ t.Unused a i) :
      (is.foldl (State.freeOwn a) t).Unused a i := by
    induction is generalizing t with
    | nil => exact done.resolve_left List.not_mem_nil
    | cons j is ih =>
      refine ih _ ?_
      rcases done with mem | unused
      · rcases List.mem_cons.mp mem with rfl | later
        · exact .inr (t.unused_freeOwn a i)
        · exact .inl later
      · exact .inr (unused.freeOwn j)
  exact all _ s (.inl (List.mem_finRange i))

theorem State.freeOwn_upholds (a : AgentId) (s : State) (i : EntryId) : s.Upholds True (s.freeOwn a i) := by
  unfold State.freeOwn
  split
  · exact s.freeEntry_upholds i
  · exact .refl s

theorem State.freeOwn_keeps_tables (a : AgentId) (s : State) (i : EntryId) : s.Keeps (s.freeOwn a i) := by
  unfold State.freeOwn
  split
  · exact s.freeEntry_keeps_tables i
  · exact .refl s

theorem State.loadAgent_upholds {agent enabled cls lane quota : Byte} {a : AgentId} {r : AgentRecord}
    (ok : s.agentCheck agent enabled cls lane quota = .ok (a, r)) : s.Upholds (GroupsAgree s) (s.loadAgent a r) := by
  obtain ⟨limit, room⟩ := State.agentCheck_eq_ok ok
  unfold State.loadAgent
  split
  · rename_i on
    have loaded : s.Upholds True (s.putAgent a { r with inUse := (s.agent a).inUse }) :=
      State.putAgent_upholds id (room on) limit fun off => by rw [show r.enabled = false from off] at on; cases on
    exact loaded.given
  · have freed : s.Upholds True (s.freeAgentEntries a) := State.Upholds.foldl (State.freeOwn_upholds a) _ s
    have unused := s.unused_freeAgentEntries a
    have none : (s.freeAgentEntries a).liveCount a = 0 := countP_finRange_eq_zero.mpr fun i => by
      by_contra both
      simp only [Bool.not_eq_false, Bool.and_eq_true, beq_iff_eq] at both
      exact unused i (by rcases Entry.live_iff.mp both.1 with e | e <;> simp [e]) both.2
    have loaded := freed.next (State.putAgent_upholds (a := a) (r := { r with inUse := 0 }) (fun _ => none.symm)
      (Nat.zero_le _) limit fun _ => unused)
    have kept : s.Keeps ((s.freeAgentEntries a).putAgent a { r with inUse := 0 }) :=
      (State.Keeps.foldl (State.freeOwn_keeps_tables a) _ s).trans (State.putAgent_keeps_tables _ a _)
    exact loaded.given.trans (State.foldl_afterLoss_upholds _ _) kept.events.groups

end

end Sys2Proof.Machine

/-! ### Every command and every step upholds the claims (R94, R96, R97, R99, R103, R106, R130) -/

namespace Sys2Proof.Machine

section
variable {p : Prop} {s t : State}

/-! #### Commands, requests and events that are taken -/

theorem takeCommand_upholds {code : Byte} {c : Instr} {body : State → State × Reply}
    (h : takeCommand code c body s = .next t) (m : ∀ u : State, u.Upholds (GroupsAgree u) (body u).1) :
    s.Upholds (GroupsAgree s) t := by
  have taken : s.Upholds (GroupsAgree s) (s.commandTaken c) := by
    unfold State.commandTaken
    split <;> exact .of_tables rfl rfl rfl
  exact takeCommand_cases h (.refl s)
    ((taken.trans (m _) (s.commandTaken_keeps_tables c).events.groups).next (.of_tables rfl rfl rfl))

/-- A command that leaves windows, entries and agents alone. -/
theorem takeRequest_upholds {c : Instr} {l : LaneId} {r : Request} {body : State → State}
    (h : takeRequest c l r body s = .next t) (m : ∀ u : State, u.Upholds (GroupsAgree u) (body u)) :
    s.Upholds (GroupsAgree s) t :=
  have granted : s.Keeps (s.laneGranted l) := ⟨rfl, rfl, rfl⟩
  takeRequest_cases h (.refl s) fun _ =>
    State.Upholds.trans (t := s.laneGranted l) (.of_tables rfl rfl rfl) (m _) granted.events.groups

theorem takeEvent_upholds {can : Bool} {effect : State} (h : takeEvent can effect s = .next t)
    (m : s.Upholds p effect) : s.Upholds p t :=
  takeEvent_cases h (.refl s) fun _ => m

/-- An event that leaves windows, entries and agents alone. -/
theorem takeEvent_upholds_of_tables {can : Bool} {effect : State} (h : takeEvent can effect s = .next t)
    (windows : effect.windows = s.windows) (entries : effect.entries = s.entries) (agents : effect.agents = s.agents) :
    s.Upholds p t :=
  takeEvent_upholds h (.of_tables windows entries agents)

theorem State.withSlot_upholds {slot : Byte} {f : SlotId → State × Reply} (m : ∀ k, s.Upholds p (f k).1) :
    s.Upholds p (s.withSlot slot f).1 := by
  unfold State.withSlot
  split
  · exact .refl s
  · exact m _

/-- An adjustment of one record. -/
theorem State.putWindow_upholds {limit : Nat} {k : SlotId} {w : Window} (adjusts : (s.window k).Adjusts limit w) :
    s.Upholds p (s.putWindow k w) :=
  State.modifyWindow_upholds (f := fun _ => w) k adjusts.serves

theorem State.raise_upholds (s : State) (c : Cause) : s.Upholds p (s.raise c) := .of_tables rfl rfl rfl

/-! #### The window and map commands -/

/-- A record is loaded into a FREE slot, on which no claim stands (R15, R106). -/
theorem State.create_upholds {slot role : Byte} {b : FieldBlock} {k : SlotId} {r : Role} (map : BitVec 256)
    (ok : s.createCheck slot role b = .ok (k, r)) :
    s.Upholds True (s.putWindow k { Window.create r b with activeMap := map }) := by
  obtain ⟨free, _, passes⟩ := State.createCheck_eq_ok ok
  obtain ⟨⟨fields, _⟩, _⟩ := Window.inRange_iff.mp (Window.create_inRange (r := r) passes map)
  refine .of_windows rfl rfl fun _ fits j => ?_
  rw [State.window_putWindow]
  split
  · rename_i e
    subst e
    exact .unclaimed ((fits.slots k).no_claim (by simp [free]) (by simp [free]) (by simp [free])) fun _ =>
      fields.claims.1
  · exact fits.slots j

theorem windowCreateReply_upholds (slot role : Byte) (b : FieldBlock) (s : State) :
    s.Upholds True (windowCreateReply slot role b s).1 := by
  unfold windowCreateReply
  split
  · exact .refl s
  · rename_i k r ok
    exact State.create_upholds (Window.create r b).activeMap ok

/-- An accepted WINDOW MODIFY loads a claim limit of at least 1 and not below the HELD entries (R14, R16). -/
theorem State.modifyCheck_claims {k : SlotId} {select : Byte} {b : FieldBlock}
    (ok : s.modifyCheck k select b = none) (claims : (selectionOf select).claims = true) :
    s.heldCount k ≤ b.claimLimit.toNat ∧ 1 ≤ b.claimLimit.toNat := by
  obtain ⟨_, _, _, passes⟩ := State.modifyCheck_eq_none ok
  have fields := (FieldBlock.check_eq_none.mp passes).1
  obtain ⟨_, _, _, _, _, _, ⟨least, _⟩, _⟩ := fields
  simp only [FieldBlock.merge, claims, if_true] at least
  refine ⟨?_, least⟩
  simp only [State.modifyCheck, passes, claims, true_and] at ok
  by_contra less
  rw [if_pos (Nat.lt_of_not_le less)] at ok
  split_ifs at ok

theorem windowModifyReply_upholds (slot select : Byte) (b : FieldBlock) (s : State) :
    s.Upholds True (windowModifyReply slot select b s).1 :=
  State.withSlot_upholds fun k => by
    split
    · exact .refl s
    · rename_i ok
      refine .of_windows rfl rfl fun _ fits j => ?_
      rw [State.window_modifyWindow]
      split
      · rename_i e
        subst e
        have place := fits.slots k
        rw [Window.loadSelected_eq]
        by_cases claims : (selectionOf select).claims = true
        · obtain ⟨held, least⟩ := State.modifyCheck_claims ok claims
          simp only [claims, if_true]
          exact ⟨place.waits, place.holds, held, fun _ => least⟩
        · simp only [claims]
          exact ⟨place.waits, place.holds, place.held, place.room⟩
      · exact fits.slots j

theorem activateReply_upholds (slot : Byte) (s : State) : s.Upholds (GroupsAgree s) (activateReply slot s).1 :=
  State.withSlot_upholds fun k => by
    split
    · exact .refl s
    · split
      · exact .refl s
      · rename_i alone staged
        exact State.activateUnit_upholds (by simpa using alone) (by simpa using staged)

theorem disarmReply_upholds (slot : Byte) (s : State) : s.Upholds (GroupsAgree s) (disarmReply slot s).1 :=
  State.withSlot_upholds fun k => by
    split
    · exact .refl s
    · split
      · exact .refl s
      · rename_i alone armed
        exact State.modifyUnit_upholds (State.owner_self (by simpa using alone)) (.inr (by simpa using armed))
          fun _ => rfl

theorem freezeReply_upholds (slot : Byte) (s : State) : s.Upholds True (freezeReply slot s).1 :=
  State.withSlot_upholds fun k => by
    split
    · exact .refl s
    · split
      · exact .refl s
      · exact s.freezeUnit_upholds k

theorem State.thawSlot_upholds (s : State) (k : SlotId) : s.Upholds True (s.thawSlot k) := by
  unfold State.thawSlot
  split
  · rename_i frozen
    have thawed : s.Upholds True (s.modifyWindow k Window.thaw) :=
      State.modifyWindow_upholds k ⟨rfl, .inr ⟨by simp [frozen], .inl rfl⟩⟩
    exact thawed.next (State.grantPass_upholds _ k)
  · exact .refl s

theorem thawReply_upholds (slot : Byte) (s : State) : s.Upholds True (thawReply slot s).1 :=
  State.withSlot_upholds fun k => by
    split
    · exact .refl s
    · split
      · exact .refl s
      · exact State.Upholds.foldl State.thawSlot_upholds _ s

theorem renewReply_upholds (slot : Byte) (count : BitVec 16) (s : State) : s.Upholds True (renewReply slot count s).1 :=
  State.withSlot_upholds fun k => by
    split
    · exact .refl s
    · split
      · exact .refl s
      · split
        · exact .refl s
        · exact State.putWindow_upholds (Window.Adjusts.renew (limit := 0) (s.window k) count)

theorem retireReply_upholds (slot force : Byte) (s : State) : s.Upholds True (retireReply slot force s).1 :=
  State.withSlot_upholds fun k => by
    split
    · exact .refl s
    · split
      · split
        · exact State.goneSlots_upholds (List.nodup_singleton k) s
        · exact .refl s
      · split
        · exact .refl s
        · exact s.retireUnit_upholds k _

theorem mapWriteReply_upholds (slot index : Byte) (word : Word32) (s : State) :
    s.Upholds True (mapWriteReply slot index word s).1 :=
  State.withSlot_upholds fun k => by
    simp only
    split
    · exact .refl s
    · split
      · rename_i staged
        exact State.putWindow_upholds (Window.Adjusts.writeActive (limit := 0) _ staged)
      · exact State.putWindow_upholds (Window.Adjusts.writeShadow (limit := 0) _ _)
      · exact State.putWindow_upholds (Window.Adjusts.writeShadow (limit := 0) _ _)
      all_goals exact .refl s

theorem mapCommitReply_upholds (slot : Byte) (s : State) : s.Upholds True (mapCommitReply slot s).1 :=
  State.withSlot_upholds fun k => by
    simp only
    split
    · exact State.putWindow_upholds (Window.Adjusts.commit (limit := 0) (s.window k))
    · exact .refl s

/-! #### The commands on agents, on the tables and on gates -/

theorem agentSetReply_upholds (agent enabled cls lane quota : Byte) (s : State) :
    s.Upholds (GroupsAgree s) (agentSetReply agent enabled cls lane quota s).1 := by
  unfold agentSetReply
  split
  · exact .refl s
  · exact State.loadAgent_upholds ‹_›

theorem State.agent_clearTables (s : State) (a : AgentId) :
    s.clearTables.agent a = { s.agent a with inUse := 0 } := by
  have agents : s.clearTables.agents = tabulate 32 fun a => { s.agent a with inUse := 0 } := by
    simp only [State.clearTables]
  rw [State.agent, agents, tabulate_get]

theorem State.entry_clearTables (s : State) (i : EntryId) : s.clearTables.entry i = Entry.free := by
  have entries : s.clearTables.entries = Vector.replicate 48 Entry.free := by simp only [State.clearTables]
  simp [State.entry, entries]

theorem State.window_clearTables (s : State) (k : SlotId) : s.clearTables.window k = Window.free := by
  have kept (t : State) (entries : Vector Entry 48) (agents : Vector AgentRecord 32) (attn : Attention) :
      ({ t with entries := entries, agents := agents, attn := attn } : State).windows = t.windows := rfl
  have windows : s.clearTables.windows = (s.clearSlots (List.finRange 64)).windows := kept _ _ _ _
  rw [State.window_of_windows windows, State.window_clearAll]

theorem clearAllReply_upholds (s : State) : s.Upholds p (clearAllReply s).1 :=
  .of_cleared (t := s.clearTables) s.entry_clearTables s.window_clearTables fun a => by
    rw [State.agent_clearTables]
    exact ⟨rfl, le_refl _⟩

theorem gateBindReply_upholds (gate bind slot polarity mode : Byte) (s : State) :
    s.Upholds p (gateBindReply gate bind slot polarity mode s).1 := by
  simp only [gateBindReply]
  split
  · exact .refl s
  · split
    · exact .refl s
    · split
      · split
        · exact .refl s
        · exact .of_tables rfl rfl rfl
      · exact .of_tables rfl rfl rfl

/-! #### Lane requests -/

theorem State.refuseRequest_upholds (s : State) (l : LaneId) (r : Request) (why : Reason) (slot : Option Byte) :
    s.Upholds p (s.refuseRequest l r why slot) := by
  unfold State.refuseRequest State.capture
  split
  · exact .of_tables rfl rfl rfl
  · split <;> exact .of_tables rfl rfl rfl

theorem State.grantLookup_upholds (s : State) (k : SlotId) : s.Upholds True (s.grantLookup k) := by
  have usedUp : s.Upholds True (s.modifyWindow k Window.used) :=
    State.putWindow_upholds (Window.Adjusts.used (limit := 0) (s.window k))
  simp only [State.grantLookup]
  split
  · have counted := usedUp.next (State.modifyWindow_upholds (f := fun w => { w with leaseCount := w.leaseCount - 1 })
      (s.owner k) ⟨rfl, .inl rfl⟩)
    split
    · exact counted.next (State.expireLease_upholds _ _)
    · exact counted
  · exact usedUp

theorem State.lookup_upholds (l : LaneId) (r : Request) (access : ClaimKind) (s : State) :
    s.Upholds True (s.lookup l r access) := by
  unfold State.lookup
  split
  · exact s.refuseRequest_upholds l r _ _
  · exact (s.grantLookup_upholds _).next (.of_tables rfl rfl rfl)

/-- The checks of the lane pass exactly the request that the part knows (R44). -/
theorem State.laneCheck_eq_none {l : LaneId} {r : Request} : s.laneCheck l r = none ↔ s.Knows l r := by
  refine ⟨fun passes => ?_, State.laneCheck_known⟩
  have ready : s.service = .ready := by
    rcases service : s.service with _ | _
    · rfl
    · rw [State.laneCheck_loading service] at passes
      cases passes
  have on : (s.agent r.agent).enabled = true := by
    by_contra off
    rw [State.laneCheck_agentOff ready (by simpa using off)] at passes
    cases passes
  refine ⟨ready, on, ?_⟩
  by_contra other
  rw [State.laneCheck_wrongLane ready on other] at passes
  cases passes

/-- What the checks of a claim request that passes them say (R98, R99). -/
theorem State.claimCheck_eq_ok {l : LaneId} {r : Request} {kind : ClaimKind} {k : SlotId}
    (ok : s.claimCheck l r kind = .ok k) :
    (s.agent r.agent).enabled = true ∧ (s.window k).state = .opened ∧ s.findClaim r.agent k = none
      ∧ (s.agent r.agent).inUse < (s.agent r.agent).quota := by
  unfold State.claimCheck at ok
  split at ok
  · cases ok
  rename_i known
  split at ok
  · cases ok
  split at ok
  any_goals cases ok
  rename_i opened
  split at ok
  · cases ok
  split at ok
  · cases ok
  rename_i first
  split at ok
  · cases ok
  rename_i room
  cases ok
  exact ⟨(State.laneCheck_eq_none.mp known).2.1, opened, by simpa using first, Nat.lt_of_not_le room⟩

/-- A claim can be granted at once where nobody waits and there is room for its kind (R100). -/
theorem State.grantableNow_iff {k : SlotId} {kind : ClaimKind} :
    s.grantableNow k kind = true ↔ s.waitingCount k = 0 ∧ s.HasRoom k kind := by
  cases kind <;> simp [State.grantableNow, State.HasRoom]

theorem State.claim_upholds (l : LaneId) (r : Request) (kind : ClaimKind) (s : State) :
    s.Upholds True (s.claim l r kind) := by
  unfold State.claim
  split
  · exact s.refuseRequest_upholds l r _ _
  · rename_i k ok
    obtain ⟨enabled, opened, first, quota⟩ := State.claimCheck_eq_ok ok
    unfold State.decideClaim
    split
    · exact .of_tables rfl rfl rfl
    · split
      · exact s.refuseRequest_upholds l r _ _
      · rename_i i found
        have free := State.lowestFreeEntry_some found
        split
        · rename_i now
          have taken : s.Upholds True (s.makeHeld i r.agent k kind) :=
            State.takeEntry_upholds free rfl enabled quota first opened nofun (fun _ => rfl) fun _ =>
              (State.grantableNow_iff.mp now).2
          exact taken.next (.of_tables rfl rfl rfl)
        · have taken : s.Upholds True (s.makeWaiting i r.agent k kind r.waitLimit.toNat) :=
            State.takeEntry_upholds free rfl enabled quota first opened (fun _ => rfl) (fun waits => absurd rfl waits)
              nofun
          exact taken.next (.of_tables rfl rfl rfl)

theorem State.releaseHeld_upholds (i : EntryId) (k : SlotId) (s : State) :
    s.Upholds (GroupsAgree s) (s.releaseHeld i k) := by
  have noted := Window.Adjusts.released (limit := s.drainLimit) (s.window k) (s.timebase.stamp - (s.entry i).stamp)
  have freed := (State.putWindow_upholds (p := GroupsAgree s) noted).next (State.freeEntry_upholds _ i)
  have events : s.Events (fun _ => True) ((s.putWindow k _).freeEntry i) :=
    (State.Move.record noted).events.kept (State.freeEntry_keeps_tables _ i)
  exact freed.trans (State.afterLoss_upholds _ k) events.groups

theorem State.withdraw_upholds (i : EntryId) (k : SlotId) (s : State) : s.Upholds True (s.withdraw i k) := by
  unfold State.withdraw
  split
  · exact (s.freeEntry_upholds i).next (State.grantPass_upholds _ k)
  · exact s.freeEntry_upholds i

theorem State.releaseOnLane_upholds (l : LaneId) (r : Request) (s : State) :
    s.Upholds (GroupsAgree s) (s.releaseOnLane l r) := by
  unfold State.releaseOnLane
  split
  · exact s.refuseRequest_upholds l r _ _
  · split
    · exact s.refuseRequest_upholds l r _ _
    · split
      · exact (State.releaseHeld_upholds _ _ s).next (.of_tables rfl rfl rfl)
      · exact (State.withdraw_upholds _ _ s).given.next (.of_tables rfl rfl rfl)

theorem State.renewOnLane_upholds (l : LaneId) (r : Request) (s : State) : s.Upholds True (s.renewOnLane l r) := by
  unfold State.renewOnLane
  split
  · exact s.refuseRequest_upholds l r _ _
  · rename_i k _
    have renewed : s.Upholds True (s.modifyWindow k (Window.renew r.renewCount)) :=
      State.putWindow_upholds (Window.Adjusts.renew (limit := 0) (s.window k) r.renewCount)
    exact renewed.next (.of_tables rfl rfl rfl)

/-! #### Notices, pulses and expiries -/

/-- The delivery of a notice frees an ENDED entry, and else only takes the mark away (R117). -/
theorem State.deliver_upholds (l : LaneId) (i : EntryId) (s : State) : s.Upholds True (s.deliver l i) := by
  have noticed : s.Upholds True (s.putLane l { s.lane l with channel := .notice (Entry.notice i (s.entry i)) }) :=
    .of_tables rfl rfl rfl
  suffices all : ∀ t : State, t.entry i = s.entry i → t.Upholds True (t.putEntry i (s.entry i).delivered) from
    noticed.next (all _ rfl)
  intro t same
  rw [← same]
  by_cases ended : (t.entry i).state = .ended
  · have freed : t.putEntry i (t.entry i).delivered = t.freeEntry i := by
      rw [State.freeEntry, if_neg (by simp [Entry.live, ended]), Entry.delivered, if_pos ended]
    rw [freed]
    exact State.freeEntry_upholds _ i
  · refine .of_notes rfl rfl fun j => ?_
    rw [State.entry_putEntry, Entry.delivered, if_neg ended]
    split
    · rename_i e
      subst e
      exact ⟨rfl, rfl, rfl, rfl, rfl⟩
    · exact ⟨rfl, rfl, rfl, rfl, rfl⟩

theorem State.putPair_upholds (x : PulsePair) (pair : PairState) : s.Upholds p (s.putPair x pair) := by
  cases x <;> exact .of_tables rfl rfl rfl

theorem State.restart_upholds (x : PulsePair) (s : State) : s.Upholds True (s.restart x) :=
  (State.putPair_upholds x _).next
    (State.modifyWindows_upholds (fun w => (Window.Adjusts.restart (limit := 0) w x).serves) _ _)

theorem State.advance_upholds (x : PulsePair) (s : State) : s.Upholds True (s.advance x) := by
  have moved : s.Upholds True ((s.putPair x { s.pair x with advances := (s.pair x).advances - 1 }).modifyWindows
      (List.finRange 64) (Window.advance x)) :=
    (State.putPair_upholds x _).next
      (State.modifyWindows_upholds (fun w => (Window.Adjusts.advance (limit := 0) w x).serves) _ _)
  simp only [State.advance]
  split
  · exact moved.next (State.raise_upholds _ _)
  · exact moved

theorem State.sampleLine_upholds (line : PulseLine) (high : Bool) (s : State) : s.Upholds p (s.sampleLine line high) := by
  cases line <;> exact .of_tables rfl rfl rfl

theorem execLeaseExpiry_upholds {k : SlotId} (h : execLeaseExpiry k s = .next t) : s.Upholds True t := by
  unfold execLeaseExpiry at h
  split at h
  · rename_i l r access _
    have granted : s.Upholds True (s.granted (laneRequester l)) := .of_tables rfl rfl rfl
    exact takeEvent_upholds h (granted.next (State.lookup_upholds l r access _))
  · exact takeEvent_upholds h s.windowTick_upholds

/-! #### Reset and the load (R162, R166 to R168) -/

theorem execResetRelease_upholds {loaden : Bool} {imga : BitVec 3} (h : execResetRelease loaden imga s = .next t) :
    s.Upholds p t := by
  unfold execResetRelease at h
  split at h
  · cases h
    cases loaden <;> exact .of_tables rfl rfl rfl
  · cases h
    exact .refl s

theorem State.agentRecord_upholds (s : State) (index : Nat) (bytes : List Byte) :
    s.Upholds (GroupsAgree s) (s.agentRecord index bytes) := by
  simp only [State.agentRecord]
  split
  · exact .of_tables rfl rfl rfl
  · exact (State.loadAgent_upholds ‹_›).next (.of_tables rfl rfl rfl)

theorem State.windowRecord_upholds (s : State) (index : Nat) (bytes : List Byte) :
    s.Upholds True (s.windowRecord index bytes) := by
  simp only [State.windowRecord]
  split
  · exact .of_tables rfl rfl rfl
  · rename_i ok
    split
    · exact .of_tables rfl rfl rfl
    · exact (State.create_upholds (mapOfBytes (bytes.drop 32)) ok).next (.of_tables rfl rfl rfl)

theorem State.activateFlagged_upholds (flags : BitVec 64) (s : State) (k : SlotId) :
    s.Upholds (GroupsAgree s) (s.activateFlagged flags k) := by
  unfold State.activateFlagged
  split
  · rename_i flagged
    exact State.activateUnit_upholds flagged.2.1 flagged.2.2
  · exact .refl s

theorem State.loadSucceeded_upholds (s : State) : s.Upholds (GroupsAgree s) s.loadSucceeded := by
  have each (ks : List SlotId) (u : State) :
      u.Upholds (GroupsAgree u) (ks.foldl (State.activateFlagged s.loader.activateAtEnd) u) := by
    induction ks generalizing u with
    | nil => exact .refl u
    | cons k ks ih =>
      exact (u.activateFlagged_upholds _ k).trans (ih _) (u.activateFlagged_events s.loader.activateAtEnd k).groups
  have applied : s.Upholds (GroupsAgree s) s.settingsApplied := by
    unfold State.settingsApplied
    split <;> exact .of_tables rfl rfl rfl
  have whole (groups : GroupsAgree s) : GroupsAgree s.settingsApplied := groups.of_windows fun k => by
    unfold State.settingsApplied
    split <;> rfl
  have ran : s.Upholds (GroupsAgree s) s.ranAtEnd := by
    have activated : s.Upholds (GroupsAgree s) s.flaggedActivated := applied.trans (each _ _) whole
    unfold State.ranAtEnd
    split
    · exact activated
    · split
      · exact activated.next (.of_tables rfl rfl rfl)
      · exact activated
  rw [State.loadSucceeded_eq]
  exact ran.next (.of_tables rfl rfl rfl)

theorem State.loadFailed_upholds (s : State) (f : LoadFault) : s.Upholds p (s.loadFailed f) :=
  have windows : (s.loadFailed f).windows = (s.clearSlots (List.finRange 64)).windows := by simp [State.loadFailed]
  .of_cleared (fun i => by simp [State.loadFailed, State.entry])
    (fun k => by rw [State.window_of_windows windows, State.window_clearAll])
    (fun a => by simp [State.loadFailed, State.agent, AgentRecord.reset])

/-! #### A command and a step -/

/-- Every command upholds the claims; that they fit, of a part whose groups are whole. -/
theorem exec_upholds {c : Instr} (h : exec c s = .next t) : s.Upholds (GroupsAgree s) t := by
  cases c with
  | deviceReset =>
    cases h
    have agent (a : AgentId) : (State.reset.agent a).inUse = 0 ∧ (State.reset.agent a).quota ≤ (s.agent a).quota := by
      rw [reset_agent]
      exact ⟨rfl, Nat.zero_le _⟩
    exact .of_cleared (t := { State.reset with naks := s.naks, pending := s.pending }) reset_entry reset_window agent
  | resetRelease loaden imga => exact execResetRelease_upholds h
  | frameStart => exact takeEvent_upholds_of_tables h rfl rfl rfl
  | frameEnd bits extra => exact takeEvent_upholds_of_tables h rfl rfl rfl
  | readResponse bits => exact takeEvent_upholds_of_tables h rfl rfl rfl
  | status => exact takeCommand_upholds h fun u => .refl u
  | agentSet a e c l q => exact takeCommand_upholds h (agentSetReply_upholds a e c l q)
  | agentQuery a => exact takeCommand_upholds h fun u => by rw [agentQueryReply_fst]; exact .refl u
  | windowCreate slot role b => exact takeCommand_upholds h fun u => (windowCreateReply_upholds slot role b u).given
  | windowModify slot select b => exact takeCommand_upholds h fun u => (windowModifyReply_upholds slot select b u).given
  | windowQuery slot => exact takeCommand_upholds h fun u => by rw [windowQueryReply_fst]; exact .refl u
  | activate slot => exact takeCommand_upholds h (activateReply_upholds slot)
  | disarm slot => exact takeCommand_upholds h (disarmReply_upholds slot)
  | freeze slot => exact takeCommand_upholds h fun u => (freezeReply_upholds slot u).given
  | thaw slot => exact takeCommand_upholds h fun u => (thawReply_upholds slot u).given
  | renew slot count => exact takeCommand_upholds h fun u => (renewReply_upholds slot count u).given
  | retire slot force => exact takeCommand_upholds h fun u => (retireReply_upholds slot force u).given
  | mapWrite slot index word => exact takeCommand_upholds h fun u => (mapWriteReply_upholds slot index word u).given
  | mapRead slot index selector => exact takeCommand_upholds h fun u => by rw [mapReadReply_fst]; exact .refl u
  | mapCommit slot => exact takeCommand_upholds h fun u => (mapCommitReply_upholds slot u).given
  | claimQuery e => exact takeCommand_upholds h fun u => by rw [claimQueryReply_fst]; exact .refl u
  | clearAll => exact takeCommand_upholds h fun u => clearAllReply_upholds u
  | timebase divider flags run =>
    refine takeCommand_upholds h fun u => ?_
    unfold timebaseReply
    split <;> exact .of_tables rfl rfl rfl
  | settings limit =>
    refine takeCommand_upholds h fun u => ?_
    unfold settingsReply
    split <;> exact .of_tables rfl rfl rfl
  | pulseSet e q =>
    refine takeCommand_upholds h fun u => ?_
    unfold pulseSetReply
    split <;> exact .of_tables rfl rfl rfl
  | gateBind g b k p m => exact takeCommand_upholds h fun u => gateBindReply_upholds g b k p m u
  | gatesSet levels => exact takeCommand_upholds h fun u => .of_tables rfl rfl rfl
  | attentionEnable e => exact takeCommand_upholds h fun u => .of_tables rfl rfl rfl
  | ack causes slots => exact takeCommand_upholds h fun u => .of_tables rfl rfl rfl
  | readExpired => exact takeCommand_upholds h fun u => .refl u
  | reportRead => exact takeCommand_upholds h fun u => .refl u
  | reportClear => exact takeCommand_upholds h fun u => .of_tables rfl rfl rfl
  | reload =>
    refine takeCommand_upholds h fun u => ?_
    unfold reloadReply
    split <;> exact .of_tables rfl rfl rfl
  | loadAbort =>
    refine takeCommand_upholds h fun u => ?_
    unfold loadAbortReply
    split <;> exact .of_tables rfl rfl rfl
  | requestTake l word => exact takeEvent_upholds_of_tables h rfl rfl rfl
  | requestWithdraw l => exact takeEvent_upholds_of_tables h rfl rfl rfl
  | lookupRead l r =>
    exact takeRequest_upholds (c := .lookupRead l r) (l := l) (r := r) (body := fun u => u.lookup l r .read) h
      fun u => (State.lookup_upholds l r .read u).given
  | lookupWrite l r =>
    exact takeRequest_upholds (c := .lookupWrite l r) (l := l) (r := r) (body := fun u => u.lookup l r .write) h
      fun u => (State.lookup_upholds l r .write u).given
  | claimRead l r =>
    exact takeRequest_upholds (c := .claimRead l r) (l := l) (r := r) (body := fun u => u.claim l r .read) h
      fun u => (State.claim_upholds l r .read u).given
  | claimWrite l r =>
    exact takeRequest_upholds (c := .claimWrite l r) (l := l) (r := r) (body := fun u => u.claim l r .write) h
      fun u => (State.claim_upholds l r .write u).given
  | release l r =>
    exact takeRequest_upholds (c := .release l r) (l := l) (r := r) (body := fun u => u.releaseOnLane l r) h
      (State.releaseOnLane_upholds l r)
  | renewRequest l r =>
    exact takeRequest_upholds (c := .renewRequest l r) (l := l) (r := r) (body := fun u => u.renewOnLane l r) h
      fun u => (State.renewOnLane_upholds l r u).given
  | badKind l r =>
    exact takeRequest_upholds (c := .badKind l r) (l := l) (r := r) (body := fun u => u.answerBadKind l r) h
      fun u => u.refuseRequest_upholds l r _ none
  | answerOffer l => exact takeEvent_upholds_of_tables h rfl rfl rfl
  | noticeDelivery l =>
    simp only [exec, execNoticeDelivery] at h
    split at h
    · cases h
      exact .refl s
    · exact takeEvent_upholds h (State.deliver_upholds l _ s).given
  | messageTaken l => exact takeEvent_upholds_of_tables h rfl rfl rfl
  | tick => exact takeEvent_upholds_of_tables h rfl rfl rfl
  | windowTick => exact takeEvent_upholds h s.windowTick_upholds.given
  | leaseExpiry k => exact (execLeaseExpiry_upholds h).given
  | idleExpiry k => exact takeEvent_upholds h s.windowTick_upholds.given
  | drainExpiry k => exact takeEvent_upholds h s.windowTick_upholds.given
  | claimTick => exact takeEvent_upholds h s.claimTick_upholds
  | revocation i => exact takeEvent_upholds h s.claimTick_upholds
  | waitExpiry i => exact takeEvent_upholds h s.claimTick_upholds
  | restart x => exact takeEvent_upholds h (State.restart_upholds x s).given
  | advance x => exact takeEvent_upholds h (State.advance_upholds x s).given
  | busCheck n => exact takeEvent_upholds_of_tables h rfl rfl rfl
  | addressNak => exact takeEvent_upholds_of_tables h rfl rfl rfl
  | offsetNak => exact takeEvent_upholds_of_tables h rfl rfl rfl
  | busHeld => exact takeEvent_upholds_of_tables h rfl rfl rfl
  | imageHeader bytes => exact takeEvent_upholds_of_tables h rfl rfl rfl
  | settingsRecord bytes => exact takeEvent_upholds_of_tables h rfl rfl rfl
  | agentRecord bytes =>
    simp only [exec, execAgentRecord] at h
    split at h
    · cases h
      exact .refl s
    · exact takeEvent_upholds h (s.agentRecord_upholds _ bytes)
  | windowRecord bytes =>
    simp only [exec, execWindowRecord] at h
    split at h
    · cases h
      exact .refl s
    · exact takeEvent_upholds h (s.windowRecord_upholds _ bytes).given
  | loadSuccess => exact takeEvent_upholds h s.loadSucceeded_upholds
  | loadFailure =>
    simp only [exec, execLoadFailure] at h
    split at h
    · cases h
      exact .refl s
    · exact takeEvent_upholds h (s.loadFailed_upholds _)
  | pulseLineSample line high => exact takeEvent_upholds h (State.sampleLine_upholds line high s)
  | requestWord l word => exact takeEvent_upholds_of_tables h rfl rfl rfl
  | shiftOutCopy => exact takeEvent_upholds_of_tables h rfl rfl rfl

theorem step_upholds (h : step s = .next t) : s.Upholds (GroupsAgree s) t := by
  unfold step at h
  split at h
  · cases h
    unfold State.idleStep
    split
    · exact .refl s
    · exact .of_tables rfl rfl rfl
  · rename_i c rest _
    have popped : s.Keeps { s with pending := rest } := ⟨rfl, rfl, rfl⟩
    exact State.Upholds.trans (t := { s with pending := rest }) (.of_tables rfl rfl rfl) (exec_upholds h)
      popped.events.groups

end

/-- Settles O59: each operation on claims keeps counts, queues and distinctness, and every step is made of them. -/
theorem stepsKeepEntriesCounted : Obligations.StepsKeepEntriesCounted :=
  ⟨fun _ _ counted stepped => (step_upholds stepped).counted counted,
    fun _ _ queues stepped => (step_upholds stepped).queues queues,
    fun _ _ distinct stepped => (step_upholds stepped).distinct distinct⟩

/-- Settles O60: the claims fit, with the claim limit of every window in use at least 1, and every step keeps that in a
part whose groups are whole. -/
theorem stepsKeepClaimsFitting : Obligations.StepsKeepClaimsFitting := by
  intro s t groups range claims holders stepped
  have room (k : SlotId) (live : (s.window k).state ≠ .free) : 1 ≤ (s.window k).claimLimit := by
    obtain ⟨⟨fields, _⟩, _⟩ := Window.inRange_iff.mp (range k live)
    exact fields.claims.1
  obtain ⟨claims', holders', _⟩ :=
    State.fits_iff.mp ((step_upholds stepped).fits groups (State.fits_iff.mpr ⟨claims, holders, room⟩))
  exact ⟨claims', holders'⟩

end Sys2Proof.Machine

/-! ### What a lane offers, and the messages taken (R117, R138, R139) -/

namespace Sys2Proof.Machine

/-- The notice found from entry 0 upward is that of the lowest-numbered entry pending for the lane. -/
theorem State.nextNotice_eq_some {s : State} {l : LaneId} {i : EntryId} (pending : (s.entry i).noticePending = true)
    (lane : (s.agent (s.entry i).agent).lane = l)
    (lowest : ∀ j, j < i → (s.entry j).noticePending = true → (s.agent (s.entry j).agent).lane ≠ l) :
    s.nextNotice l = some i := by
  rw [State.nextNotice, ← Fin.find?_eq_find?_finRange, Fin.find?_eq_some_iff]
  refine ⟨by simp [pending, lane], fun j lt => ?_⟩
  simpa using lowest j lt

theorem Entry.notice_of_outcome {e : Entry} {o : EOutcome} (h : e.outcome = some o) (i : EntryId) :
    e.notice i = { entry := i, slot := e.slot, kind := e.kind, outcome := o } := by
  rw [Entry.notice, h, Option.getD_some]

theorem exec_noticeDelivery {s : State} {l : LaneId} {i : EntryId} (up : s.rstLow = false)
    (free : (s.lane l).channel = .free) (empty : (s.lane l).answer = none) (next : s.nextNotice l = some i) :
    exec (.noticeDelivery l) s = .next (s.deliver l i) := by
  have taken : exec (.noticeDelivery l) s
      = takeEvent ((s.lane l).channel == .free && (s.lane l).answer == none) (s.deliver l i) s := by
    show execNoticeDelivery l s = _
    rw [execNoticeDelivery, next]
  exact taken.trans (takeEvent_can up (by simp [free, empty]))

/-- A message on the channel can be taken. -/
theorem exec_messageTaken {s : State} {l : LaneId} (up : s.rstLow = false) (offered : (s.lane l).channel ≠ .free) :
    exec (.messageTaken l) s = .next (s.putLane l (s.lane l).messageTaken) :=
  takeEvent_can up (bne_iff_ne.mpr offered)

/-- Settles O36: an answer goes before a notice, and what was on the channel decides what its taking leaves. -/
theorem laneOffersAnswersThenNotices : Obligations.LaneOffersAnswersThenNotices := by
  intro s l up
  refine ⟨fun free holds => ?_, fun i o free empty pending lane outcome lowest => ?_, fun answer => ?_,
    fun n notice => ?_⟩
  · exact takeEvent_can up (by simp [free, Option.isSome_iff_ne_none.mpr holds])
  · rw [exec_noticeDelivery up free empty (State.nextNotice_eq_some pending lane lowest), State.deliver,
      Entry.notice_of_outcome outcome, Entry.delivered]
  · rw [exec_messageTaken up (by simp [answer]), Lane.messageTaken, answer]
  · rw [exec_messageTaken up (by simp [notice]), Lane.messageTaken, notice]

end Sys2Proof.Machine

/-! ### Claim requests (R98 to R102) -/

namespace Sys2Proof.Machine

/-! #### The checks in their order (R98, R99) -/

section
variable {s : State} {l : LaneId} {r : Request} {k : SlotId} {write : Bool} {kind : ClaimKind}

/-- The request's agent waits for, or holds, an entry naming the slot. -/
def State.HasClaim (s : State) (r : Request) (k : SlotId) : Prop :=
  ∃ i : EntryId, ((s.entry i).state = .waiting ∨ (s.entry i).state = .held)
    ∧ (s.entry i).agent = r.agent ∧ (s.entry i).slot = k

theorem State.findClaim_isSome_iff : (s.findClaim r.agent k).isSome = true ↔ s.HasClaim r k := by
  simp [State.findClaim, State.HasClaim, Entry.live_iff, and_assoc]

theorem State.claimCheck_laneCheck {why : Reason} (h : s.laneCheck l r = some why) :
    s.claimCheck l r kind = .error (why, false) := by
  simp [State.claimCheck, h]

variable (known : s.Knows l r)
include known

theorem State.claimCheck_noSlot (h : slotOf r.slot = none) : s.claimCheck l r kind = .error (.noWindow, false) := by
  simp [State.claimCheck, State.laneCheck_known known, h]

variable (hk : slotOf r.slot = some k)
include hk

theorem State.claimCheck_noWindow
    (h : (s.window k).state = .free ∨ (s.window k).state = .staged ∨ (s.window k).state = .armed) :
    s.claimCheck l r kind = .error (.noWindow, false) := by
  rcases h with h | h | h <;> simp [State.claimCheck, State.laneCheck_known known, hk, h]

theorem State.claimCheck_frozen (h : (s.window k).state = .frozen) : s.claimCheck l r kind = .error (.frozen, true) := by
  simp [State.claimCheck, State.laneCheck_known known, hk, h]

theorem State.claimCheck_retiring (h : (s.window k).state = .draining) :
    s.claimCheck l r kind = .error (.retiring, true) := by
  simp [State.claimCheck, State.laneCheck_known known, hk, h]

variable (opened : (s.window k).state = .opened)
include opened

/-- The last checks are those against an OPEN window. -/
theorem State.claimCheck_opened :
    s.claimCheck l r kind
      = if (s.window k).rights[(s.agent r.agent).cls].allows kind = false then .error (.noRight, true)
        else if (s.findClaim r.agent k).isSome = true then .error (.duplicate, true)
        else if (s.agent r.agent).quota ≤ (s.agent r.agent).inUse then .error (.quota, true)
        else .ok k := by
  simp [State.claimCheck, State.laneCheck_known known, hk, opened]

theorem State.claimCheck_noRight (denied : ¬ (s.window k).rights[(s.agent r.agent).cls].Permits write) :
    s.claimCheck l r (accessKind write) = .error (.noRight, true) := by
  rw [← Right.allows_iff, Bool.not_eq_true] at denied
  exact (State.claimCheck_opened known hk opened).trans (if_pos denied)

variable (permits : (s.window k).rights[(s.agent r.agent).cls].Permits write)
include permits

theorem State.claimCheck_duplicate (first : s.HasClaim r k) :
    s.claimCheck l r (accessKind write) = .error (.duplicate, true) := by
  rw [← Right.allows_iff] at permits
  rw [State.claimCheck_opened known hk opened, if_neg ((Bool.not_eq_false _).mpr permits),
    if_pos (State.findClaim_isSome_iff.mpr first)]

variable (first : ¬ s.HasClaim r k)
include first

/-- Past the right and the first claim, the check that is left is that of the quota. -/
theorem State.claimCheck_first :
    s.claimCheck l r (accessKind write)
      = if (s.agent r.agent).quota ≤ (s.agent r.agent).inUse then .error (.quota, true) else .ok k := by
  rw [← Right.allows_iff] at permits
  rw [State.claimCheck_opened known hk opened, if_neg ((Bool.not_eq_false _).mpr permits),
    if_neg (mt State.findClaim_isSome_iff.mp first)]

end

/-! #### The taking of a claim request (R98, R102) -/

section
variable {s : State} {l : LaneId} {r : Request} {write : Bool}

/-- The row of a claim request of this access. -/
abbrev claimRow (write : Bool) (l : LaneId) (r : Request) : Instr :=
  if write then .claimWrite l r else .claimRead l r

variable (due : s.requestDue l r = true) (kind : r.kind = if write then 4 else 3)
include due kind

theorem exec_claim : exec (claimRow write l r) s = .next ((s.laneGranted l).claim l r (accessKind write)) := by
  have wf : (claimRow write l r).wf = true := by cases write <;> exact beq_iff_eq.mpr kind
  cases write with
  | true => exact takeRequest_due (body := fun t => t.claim l r .write) wf due
  | false => exact takeRequest_due (body := fun t => t.claim l r .read) wf due

theorem exec_claim_refused {why : Reason} {carries : Bool}
    (h : s.claimCheck l r (accessKind write) = .error (why, carries)) :
    exec (claimRow write l r) s = .next (s.laneRefused l r why (if carries then some r.slot else none)) := by
  have check : (s.laneGranted l).claimCheck l r (accessKind write) = .error (why, carries) := h
  rw [exec_claim due kind, State.claim, check, ← State.refuseRequest_laneGranted]

theorem exec_claim_decided {k : SlotId} (h : s.claimCheck l r (accessKind write) = .ok k) :
    exec (claimRow write l r) s = .next ((s.laneGranted l).decideClaim l r (accessKind write) k) := by
  have check : (s.laneGranted l).claimCheck l r (accessKind write) = .ok k := h
  rw [exec_claim due kind, State.claim, check]

end

/-- Settles O39: the first check that fails is the reason, and a refusal only reports and answers. -/
theorem claimChecksInOrder : Obligations.ClaimChecksInOrder := by
  intro s l r write due kind c refused known
  have refuse {why : Reason} {carries : Bool}
      (h : s.claimCheck l r (accessKind write) = .error (why, carries)) :
      refused why (if carries then some r.slot else none) := exec_claim_refused due kind h
  refine ⟨fun loading => refuse (State.claimCheck_laneCheck (State.laneCheck_loading loading)),
    fun ready off => refuse (State.claimCheck_laneCheck (State.laneCheck_agentOff ready off)),
    fun ready on lane => refuse (State.claimCheck_laneCheck (State.laneCheck_wrongLane ready on lane)),
    fun known above => refuse (State.claimCheck_noSlot known (slotOf_eq_none.mpr above)),
    fun k known hk => ⟨fun out => refuse (State.claimCheck_noWindow known hk out),
      fun frozen => refuse (State.claimCheck_frozen known hk frozen),
      fun draining => refuse (State.claimCheck_retiring known hk draining),
      fun opened denied => refuse (State.claimCheck_noRight known hk opened denied),
      fun opened permits mine => refuse (State.claimCheck_duplicate known hk opened permits mine),
      fun opened permits first full =>
        refuse ((State.claimCheck_first known hk opened permits first).trans (if_pos full))⟩⟩

/-! #### The decision (R100, R101) -/

theorem State.lowestFreeEntry_eq_some {s : State} {i : EntryId} (free : (s.entry i).state = .free)
    (lowest : ∀ j, j < i → (s.entry j).state ≠ .free) : s.lowestFreeEntry = some i := by
  rw [State.lowestFreeEntry, ← Fin.find?_eq_find?_finRange, Fin.find?_eq_some_iff]
  exact ⟨beq_iff_eq.mpr free, fun j lt => by simpa using lowest j lt⟩

theorem State.lowestFreeEntry_eq_none {s : State} (full : ∀ i, (s.entry i).state ≠ .free) :
    s.lowestFreeEntry = none := by
  simpa [State.lowestFreeEntry] using full

/-- Room for an access, in the words of its two kinds (R100). -/
theorem State.hasRoom_accessKind {s : State} {k : SlotId} {write : Bool} :
    s.HasRoom k (accessKind write)
      ↔ if write then s.heldCount k = 0
        else s.heldCount k < (s.window k).claimLimit
          ∧ ∀ i : EntryId, (s.entry i).state = .held → (s.entry i).slot = k → (s.entry i).kind = .read := by
  cases write with
  | true => exact Iff.rfl
  | false => exact and_comm.trans (and_congr_right fun _ => State.writeHeld_eq_false)

section
variable {s : State} {l : LaneId} {r : Request} {kind : ClaimKind} {k : SlotId}

theorem State.decideClaim_busy (full : s.grantableNow k kind = false) (now : r.waitLimit = 0) :
    s.decideClaim l r kind k = s.answerLane l { r.answer .busy with slot := some r.slot } :=
  if_pos ⟨full, now⟩

theorem State.decideClaim_tableFull (goes : ¬ (s.grantableNow k kind = false ∧ r.waitLimit = 0))
    (none : s.lowestFreeEntry = none) :
    s.decideClaim l r kind k = s.refuseRequest l r .tableFull (some r.slot) := by
  rw [State.decideClaim, if_neg goes, none]

theorem State.decideClaim_granted {i : EntryId} (room : s.grantableNow k kind = true)
    (free : s.lowestFreeEntry = some i) :
    s.decideClaim l r kind k
      = (s.makeHeld i r.agent k kind).answerLane l
          { r.answer .granted with slot := some r.slot, entry := some i } := by
  rw [State.decideClaim, if_neg (by simp [room]), free]
  exact if_pos room

theorem State.decideClaim_queued {i : EntryId} (full : s.grantableNow k kind = false) (waits : r.waitLimit ≠ 0)
    (free : s.lowestFreeEntry = some i) :
    s.decideClaim l r kind k
      = (s.makeWaiting i r.agent k kind r.waitLimit.toNat).answerLane l
          { r.answer .queued with slot := some r.slot, entry := some i } := by
  rw [State.decideClaim, if_neg fun now => waits now.2, free]
  exact if_neg (by simp [full])

end

/-- Settles O40: the checks pass, and room, the wait limit and the lowest FREE entry decide between the four answers. -/
theorem claimIsDecided : Obligations.ClaimIsDecided := by
  intro s l r write k due kind hk opened ready on lane permits first quota c held waiting room lowest taken waits
    counted answer
  have unclaimed : ¬ s.HasClaim r k := by
    rintro ⟨i, live, mine, here⟩
    rcases first i mine here with free | ended <;> simp_all
  have passes : s.claimCheck l r (accessKind write) = .ok k :=
    (State.claimCheck_first ⟨ready, on, lane⟩ hk opened permits unclaimed).trans (if_neg (by omega))
  have decided {t : State} (h : (s.laneGranted l).decideClaim l r (accessKind write) k = t) : exec c s = .next t :=
    h ▸ exec_claim_decided due kind passes
  have grantable : (s.laneGranted l).grantableNow k (accessKind write) = true ↔ room :=
    State.grantableNow_iff.trans (and_congr_right fun _ => State.hasRoom_accessKind)
  have full (h : ¬ room) : (s.laneGranted l).grantableNow k (accessKind write) = false := by
    rwa [← grantable, Bool.not_eq_true] at h
  have free {i : EntryId} (h : lowest i) : (s.laneGranted l).lowestFreeEntry = some i :=
    State.lowestFreeEntry_eq_some h.1 h.2
  refine ⟨fun i h here => decided ?_, fun i h long here => decided ?_, fun h now => decided ?_,
    fun h table => decided ?_⟩
  · exact State.decideClaim_granted (grantable.mpr h) (free here)
  · exact State.decideClaim_queued (full h) long (free here)
  · exact State.decideClaim_busy (full h) now
  · have goes : ¬ ((s.laneGranted l).grantableNow k (accessKind write) = false ∧ r.waitLimit = 0) := fun ⟨no, now⟩ =>
      h.elim (fun h => absurd (grantable.mpr h) (by simp [no])) (· now)
    exact (State.decideClaim_tableFull goes (State.lowestFreeEntry_eq_none table)).trans
      (s.refuseRequest_laneGranted l r _ _)

end Sys2Proof.Machine

/-! ### RELEASE (R104, R109 to R112) -/

namespace Sys2Proof.Machine

/-! #### The claim that a RELEASE names (R110) -/

section
variable {s : State} {l : LaneId} {r : Request}

/-- The entry is a claim of the request's agent on the slot that the request names. -/
def State.Names (s : State) (r : Request) (i : EntryId) : Prop :=
  (s.entry i).agent = r.agent ∧ (s.entry i).slot.val = r.slot.toNat
    ∧ ((s.entry i).state = .waiting ∨ (s.entry i).state = .held)

/-- The claim that a RELEASE acts on, with its slot. -/
def State.claimNamed (s : State) (r : Request) : Option (SlotId × EntryId) :=
  (slotOf r.slot).bind fun k => (s.findClaim r.agent k).map fun i => (k, i)

theorem slotOf_eq_some {b : Byte} {k : SlotId} (h : k.val = b.toNat) : slotOf b = some k := by
  rw [← slotOf_ofNat k, h, BitVec.ofNat_toNat, BitVec.setWidth_eq]

theorem State.claimNamed_some {k : SlotId} {i : EntryId} (h : s.claimNamed r = some (k, i)) :
    s.Names r i ∧ k = (s.entry i).slot := by
  simp only [State.claimNamed, Option.bind_eq_some_iff, Option.map_eq_some_iff, Prod.mk.injEq] at h
  obtain ⟨_, hk, _, found, rfl, rfl⟩ := h
  obtain ⟨live, mine, here⟩ := State.findClaim_some found
  exact ⟨⟨mine, by rw [here, slotOf_val hk], Entry.live_iff.mp live⟩, here.symm⟩

/-- Some claim is found where there is one. -/
theorem State.claimNamed_isSome {i : EntryId} (names : s.Names r i) : ∃ x, s.claimNamed r = some x := by
  obtain ⟨mine, here, live⟩ := names
  have found : (s.findClaim r.agent (s.entry i).slot).isSome = true :=
    State.findClaim_isSome_iff.mpr ⟨i, live, mine, rfl⟩
  obtain ⟨j, found⟩ := Option.isSome_iff_exists.mp found
  exact ⟨_, by rw [State.claimNamed, slotOf_eq_some here, Option.bind_some, found, Option.map_some]⟩

theorem State.claimNamed_eq_none (none : ∀ i, ¬ s.Names r i) : s.claimNamed r = .none :=
  Option.eq_none_iff_forall_ne_some.mpr fun ⟨_, i⟩ found => none i (State.claimNamed_some found).1

theorem State.claimNamed_eq_some {i : EntryId} (names : s.Names r i) (only : ∀ j, s.Names r j → j = i) :
    s.claimNamed r = some ((s.entry i).slot, i) := by
  obtain ⟨⟨k, j⟩, found⟩ := State.claimNamed_isSome names
  obtain ⟨named, here⟩ := State.claimNamed_some found
  rw [found, here, only j named]

/-! #### The taking of a RELEASE (R110) -/

theorem State.releaseOnLane_laneCheck {why : Reason} (h : s.laneCheck l r = some why) :
    s.releaseOnLane l r = s.refuseRequest l r why none := by
  rw [State.releaseOnLane, h]

theorem State.releaseOnLane_notHeld (known : s.Knows l r) (h : s.claimNamed r = none) :
    s.releaseOnLane l r = s.refuseRequest l r .notHeld (some r.slot) := by
  rw [State.claimNamed] at h
  rw [State.releaseOnLane, State.laneCheck_known known, h]

theorem State.releaseOnLane_found {k : SlotId} {i : EntryId} (known : s.Knows l r) (h : s.claimNamed r = some (k, i)) :
    s.releaseOnLane l r
      = if (s.entry i).state = .held then
          (s.releaseHeld i k).answerLane l { r.answer .released with slot := some r.slot, entry := some i }
        else (s.withdraw i k).answerLane l { r.answer .withdrawn with slot := some r.slot, entry := some i } := by
  rw [State.claimNamed] at h
  rw [State.releaseOnLane, State.laneCheck_known known, h]

theorem exec_release (due : s.requestDue l r = true) (kind : r.kind = 5) :
    exec (.release l r) s = .next ((s.laneGranted l).releaseOnLane l r) :=
  takeRequest_due (body := fun t => t.releaseOnLane l r) (beq_iff_eq.mpr kind) due

end

/-! #### The release of a HELD entry (R111) -/

section
variable {s : State} {i : EntryId}

/-- A HELD entry stands in no queue, so none closes up when it becomes FREE. -/
theorem State.freeEntry_held (holds : (s.entry i).state = .held) :
    s.freeEntry i = (s.putEntry i Entry.free).decInUse (s.entry i).agent := by
  have stays : s.vacate i = s := if_neg (by simp [holds])
  rw [State.freeEntry, if_pos (Entry.live_iff.mpr (.inr holds)), stays]

/-- The state between the release of a HELD entry and what follows the loss. -/
def State.holdReleased (s : State) (i : EntryId) : State :=
  (s.modifyWindow (s.entry i).slot fun w =>
    { w with lastHold := some (s.timebase.stamp - (s.entry i).stamp) }).freeEntry i

theorem State.releaseHeld_eq (s : State) (i : EntryId) :
    s.releaseHeld i (s.entry i).slot = (s.holdReleased i).afterLoss (s.entry i).slot := rfl

theorem State.holdReleased_eq (holds : (s.entry i).state = .held) :
    s.holdReleased i
      = (((s.putWindow (s.entry i).slot
            { s.window (s.entry i).slot with lastHold := some (s.timebase.stamp - (s.entry i).stamp) }).putEntry i
          Entry.free).putAgent (s.entry i).agent
            { s.agent (s.entry i).agent with inUse := (s.agent (s.entry i).agent).inUse - 1 }) :=
  State.freeEntry_held (s := s.modifyWindow _ _) holds

theorem State.states_holdReleased (s : State) (i : EntryId) (k : SlotId) :
    ((s.holdReleased i).window k).state = (s.window k).state ∧ ((s.holdReleased i).window k).role = (s.window k).role := by
  rw [State.holdReleased, State.freeEntry_window]
  exact State.states_modifyWindow s (s.entry i).slot ⟨rfl, rfl⟩ k

/-- The unit that governs a slot is the same after the release. -/
theorem State.unitSlots_holdReleased (s : State) (i : EntryId) (k : SlotId) :
    (s.holdReleased i).unitSlots ((s.holdReleased i).owner k) = s.unitSlots (s.owner k) := by
  have owner : (s.holdReleased i).owner k = s.owner k :=
    State.owner_congr_members (fun j => by simp only [Window.isMember, s.states_holdReleased i j]) k
  rw [owner, State.unitSlots_congr_states (s.states_holdReleased i)]

theorem State.anyHeld_holdReleased (holds : (s.entry i).state = .held) (slots : List SlotId) :
    (s.holdReleased i).anyHeld slots = true ↔ ∃ j, j ≠ i ∧ (s.entry j).state = .held ∧ (s.entry j).slot ∈ slots := by
  have entries (j : EntryId) : (s.holdReleased i).entry j = if i = j then Entry.free else s.entry j := by
    rw [State.holdReleased_eq holds, State.putAgent_entry, State.entry_putEntry, State.putWindow_entry]
  rw [State.anyHeld_iff]
  refine exists_congr fun j => ?_
  rw [entries]
  by_cases e : i = j
  · simp [e, Entry.free]
  · simp [e, Ne.symm e]

end

/-! #### The withdrawal of a WAITING entry (R112) -/

/-- Only entries and agents may differ when an entry becomes FREE. -/
theorem State.freeEntry_frame (s : State) (i : EntryId) :
    s.freeEntry i = { s with entries := (s.freeEntry i).entries, agents := (s.freeEntry i).agents } := by
  unfold State.freeEntry State.vacate
  split
  · split <;> rfl
  · rfl

/-- Settles O41: the claim named is the only one, and its state decides between a release and a withdrawal. -/
theorem releaseFreesOrWithdraws : Obligations.ReleaseFreesOrWithdraws := by
  intro s l r due kind refused mine known answer
  have refuse {why : Reason} {slot : Option Byte}
      (h : (s.laneGranted l).releaseOnLane l r = (s.laneGranted l).refuseRequest l r why slot) : refused why slot :=
    (exec_release due kind).trans (by rw [h, State.refuseRequest_laneGranted])
  have unchecked {why : Reason} (h : s.laneCheck l r = some why) : refused why none :=
    refuse (State.releaseOnLane_laneCheck h)
  refine ⟨fun loading => unchecked (State.laneCheck_loading loading),
    fun ready off => unchecked (State.laneCheck_agentOff ready off),
    fun ready on lane => unchecked (State.laneCheck_wrongLane ready on lane),
    fun known unclaimed => refuse (State.releaseOnLane_notHeld known (State.claimNamed_eq_none unclaimed)),
    fun i k known names only here => ?_⟩
  subst here
  intro counted
  have found : (s.laneGranted l).claimNamed r = some ((s.entry i).slot, i) :=
    State.claimNamed_eq_some (s := s.laneGranted l) names only
  have agent : (s.entry i).agent = r.agent := names.1
  have taken := State.releaseOnLane_found (s := s.laneGranted l) known found
  refine ⟨fun holds => ?_, fun waits => ?_⟩
  · intro freed others
    have eq : (s.laneGranted l).holdReleased i = freed := by
      rw [State.holdReleased_eq (s := s.laneGranted l) holds]
      simp only [State.laneGranted_entry, agent]
      rfl
    have done {t : State} (h : ((s.laneGranted l).holdReleased i).afterLoss (s.entry i).slot = t) :
        exec (.release l r) s = .next (t.laneAnswered l (answer .released i)) := by
      rw [exec_release due kind, taken, if_pos (show ((s.laneGranted l).entry i).state = .held from holds), ← h]
      rfl
    have state : (((s.laneGranted l).holdReleased i).window (s.entry i).slot).state = (s.window (s.entry i).slot).state :=
      ((s.laneGranted l).states_holdReleased i _).1
    have unit : ((s.laneGranted l).holdReleased i).unitSlots (((s.laneGranted l).holdReleased i).owner (s.entry i).slot)
        = s.unitSlots (s.owner (s.entry i).slot) := by
      rw [State.unitSlots_holdReleased, State.laneGranted_owner]
      exact State.unitSlots_congr (s := s) (t := s.laneGranted l) (fun _ => rfl) _
    have held : ((s.laneGranted l).holdReleased i).anyHeld (s.unitSlots (s.owner (s.entry i).slot)) = true ↔ others :=
      State.anyHeld_holdReleased (s := s.laneGranted l) holds _
    refine ⟨fun opened => done ?_, fun stays => done ?_, fun drains alone => done ?_⟩
    · rw [State.afterLoss_opened (state.trans opened), eq]
    · rcases stays with frozen | ⟨drains, more⟩
      · rw [State.afterLoss_other (by simp [state, frozen]) (by simp [state, frozen]), eq]
      · rw [State.afterLoss_draining (state.trans drains), unit, if_pos (held.mpr more), eq]
    · rw [State.afterLoss_draining (state.trans drains), unit, if_neg (mt held.mp alone), eq]
      rfl
  · have done {t : State} (h : (s.laneGranted l).withdraw i (s.entry i).slot = t) :
        exec (.release l r) s = .next (t.laneAnswered l (answer .withdrawn i)) := by
      rw [exec_release due kind, taken, if_neg (by simp [waits]), h]
      rfl
    have live : (s.entry i).live = true := Entry.live_iff.mpr (.inl waits)
    have agents (a : AgentId) := (s.laneGranted l).agent_freeEntry i a
    have entries (j : EntryId) := (s.laneGranted l).entry_freeEntry i j
    simp only [State.laneGranted_entry, State.laneGranted_agent, live, agent, true_and] at agents
    refine ⟨(s.laneGranted l).freeEntry i, State.freeEntry_frame _ i, by rw [entries, if_pos rfl],
      by rw [agents, if_pos rfl], fun a ne => by rw [agents, if_neg (Ne.symm ne)], fun j ne => ?_,
      fun behind => done (if_neg behind), fun head => done (if_pos head)⟩
    rw [entries, if_neg (Ne.symm ne), State.entry_vacate]
    simp only [State.laneGranted_entry, waits, true_and]

end Sys2Proof.Machine

/-! ### Grant passes, one grant at a time (R97, R103, R105) -/

namespace Sys2Proof.Machine

section
variable {s : State} {k : SlotId} {i : EntryId}

theorem State.queueHead_eq_none (empty : s.waitingCount k = 0) : s.queueHead k = none := by
  rw [State.waitingCount, countP_finRange_eq_zero] at empty
  simp only [State.queueHead, List.find?_eq_none]
  exact fun i _ => by simp [empty i]

theorem State.waitingCount_le (s : State) (k : SlotId) : s.waitingCount k ≤ 48 :=
  List.countP_le_length.trans (List.length_finRange).le

theorem State.passLoop_empty (none : s.queueHead k = none) (n : Nat) : State.passLoop k n s = s := by
  cases n <;> simp [State.passLoop, none]

/-- A head without room for its kind stops the pass (R103). -/
theorem State.passLoop_full (head : s.queueHead k = some i) (full : ¬ s.HasRoom k (s.entry i).kind) (n : Nat) :
    State.passLoop k n s = s := by
  cases n with
  | zero => rfl
  | succ n =>
    cases kind : (s.entry i).kind
    all_goals
      rw [kind] at full
      simp only [State.passLoop, head, kind]
      exact if_neg full

/-- While a WRITE is HELD, no head has room. -/
theorem State.passLoop_writeHeld (writes : s.writeHeld k = true) (n : Nat) : State.passLoop k n s = s := by
  cases head : s.queueHead k with
  | none => exact State.passLoop_empty head n
  | some i =>
    refine State.passLoop_full head ?_ n
    obtain ⟨j, holds, here, _⟩ := State.writeHeld_iff.mp writes
    have := State.heldCount_pos holds here
    cases (s.entry i).kind with
    | write => exact fun room : s.heldCount k = 0 => by omega
    | read => exact fun room => absurd writes (by simp [room.1])

/-- With room for it the head is granted, and the pass goes on from there; after a WRITE it grants nothing more. -/
theorem State.passLoop_grant (head : s.queueHead k = some i) (room : s.HasRoom k (s.entry i).kind) (n : Nat) :
    State.passLoop k (n + 1) s = State.passLoop k n (s.grantEntry i) := by
  cases kind : (s.entry i).kind with
  | read =>
    rw [kind] at room
    simp only [State.passLoop, head, kind]
    exact if_pos room
  | write =>
    have granted := s.entry_grantEntry_self i
    have writes : (s.grantEntry i).writeHeld k = true :=
      State.writeHeld_iff.mpr ⟨i, by rw [granted], by rw [granted]; exact (State.queueHead_some head).2,
        by rw [granted]; exact kind⟩
    rw [kind] at room
    rw [State.passLoop_writeHeld writes]
    simp only [State.passLoop, head, kind]
    exact if_pos room

/-- A queue is one shorter once its head is granted. -/
theorem State.waitingCount_grantEntry (head : s.queueHead k = some i) :
    (s.grantEntry i).waitingCount k + 1 = s.waitingCount k := by
  obtain ⟨waits, here⟩ := State.queueHead_some head
  simpa [waits, here] using (State.leaves_grantEntry waits).waitingCount k

/-- A pass with a grant for each entry of the queue needs no more. -/
theorem State.passLoop_fuel (n : Nat) (s : State) (enough : s.waitingCount k ≤ n) :
    State.passLoop k (n + 1) s = State.passLoop k n s := by
  induction n generalizing s with
  | zero =>
    have none := State.queueHead_eq_none (Nat.le_zero.mp enough)
    rw [State.passLoop_empty none, State.passLoop_empty none]
  | succ n ih =>
    cases head : s.queueHead k with
    | none => rw [State.passLoop_empty head, State.passLoop_empty head]
    | some i =>
      by_cases room : s.HasRoom k (s.entry i).kind
      · have shorter := State.waitingCount_grantEntry head
        rw [State.passLoop_grant head room, State.passLoop_grant head room, ih _ (by omega)]
      · rw [State.passLoop_full head room, State.passLoop_full head room]

theorem State.grantPass_opened (opened : (s.window k).state = .opened) : s.grantPass k = State.passLoop k 48 s :=
  if_pos opened

theorem State.grantPass_shut (shut : (s.window k).state ≠ .opened) : s.grantPass k = s := if_neg shut

theorem State.grantPass_full (head : s.queueHead k = some i) (full : ¬ s.HasRoom k (s.entry i).kind) :
    s.grantPass k = s := by
  by_cases opened : (s.window k).state = .opened
  · rw [State.grantPass_opened opened, State.passLoop_full head full]
  · exact State.grantPass_shut opened

/-- A pass is the grant of the head and a pass from there. -/
theorem State.grantPass_grant (opened : (s.window k).state = .opened) (head : s.queueHead k = some i)
    (room : s.HasRoom k (s.entry i).kind) : s.grantPass k = (s.grantEntry i).grantPass k := by
  have shorter := State.waitingCount_grantEntry head
  have short := s.waitingCount_le k
  rw [State.grantPass_opened opened, State.grantPass_opened (by simpa using opened), State.passLoop_grant head room,
    State.passLoop_fuel 47 _ (by omega)]

end

/-- Settles O43: a pass is empty, stops at its head, or grants the head and goes on. -/
theorem grantPassGrantsFromTheHead : Obligations.GrantPassGrantsFromTheHead := by
  intro s k
  refine ⟨State.grantPass_shut, State.grantPass_empty, fun i opened head => ?_⟩
  intro held can
  obtain ⟨waits, here⟩ := State.queueHead_some head
  have first := State.queueHead_arrival head
  have room : s.HasRoom k (s.entry i).kind ↔ can := by
    simp only [can]
    cases (s.entry i).kind with
    | write => exact Iff.rfl
    | read => exact and_comm.trans (and_congr_right fun _ => State.writeHeld_eq_false)
  refine ⟨⟨waits, here, first⟩, fun cannot => State.grantPass_full head (mt room.mp cannot), fun can =>
    ⟨s.grantEntry i, State.grantPass_grant opened head (room.mpr can), rfl, ?_, fun j ne => ?_⟩⟩
  · rw [State.entry_grantEntry_self, here]
    rfl
  · rw [(State.leaves_grantEntry waits).others j (Ne.symm ne), here, first]
    simp only [waits, true_and]

end Sys2Proof.Machine

/-! ### The first step of the Claim Unit's tick: the countdowns, and the entries they end (R97, R113 to R115) -/

namespace Sys2Proof.Machine

/-! #### Several entries leave one queue (R97) -/

section
variable {p : Entry → Bool} {o : EOutcome} {s t : State} {i j k : EntryId}

/-- The entry passes the test, and waits in the queue of entry `i` ahead of it. -/
def State.goesAhead (s : State) (p : Entry → Bool) (i j : EntryId) : Bool :=
  p (s.entry j) && (s.entry j).state == .waiting && (s.entry j).slot == (s.entry i).slot
    && decide ((s.entry j).arrival < (s.entry i).arrival)

theorem State.goesAhead_iff :
    s.goesAhead p i j = true
      ↔ p (s.entry j) = true ∧ (s.entry j).state = .waiting ∧ (s.entry j).slot = (s.entry i).slot
        ∧ (s.entry j).arrival < (s.entry i).arrival := by
  simp [State.goesAhead, and_assoc]

/-- No two entries of a queue pass each other when a third leaves it. -/
theorem State.Leaves.arrival_lt_iff (leaves : s.Leaves k t) (queues : QueuesOrdered s) (ahead : k ≠ j) (behind : k ≠ i)
    (waitsJ : (s.entry j).state = .waiting) (waits : (s.entry i).state = .waiting)
    (same : (s.entry j).slot = (s.entry i).slot) :
    (t.entry j).arrival < (t.entry i).arrival ↔ (s.entry j).arrival < (s.entry i).arrival := by
  obtain ⟨_, distinct, _⟩ := queues
  rw [leaves.others j ahead, leaves.others i behind]
  by_cases mine : (s.entry k).state = .waiting ∧ (s.entry j).slot = (s.entry k).slot
  · obtain ⟨goes, here⟩ := mine
    have apartJ : (s.entry k).arrival ≠ (s.entry j).arrival := fun e => ahead (distinct k j goes waitsJ here.symm e)
    have apart : (s.entry k).arrival ≠ (s.entry i).arrival := fun e =>
      behind (distinct k i goes waits (here.symm.trans same) e)
    simp only [goes, waitsJ, waits, ← same, here, true_and]
    split <;> split <;> simp only [] <;> omega
  · rw [if_neg fun all => mine ⟨all.1, all.2.2.1⟩, if_neg fun all => mine ⟨all.1, same.trans all.2.2.1⟩]

/-- The end of one entry, where it passes, moves up those behind it. -/
theorem State.arrival_endIf (ne : k ≠ i) (waits : (s.entry i).state = .waiting) :
    ((if p (s.entry k) then s.endEntry k o else s).entry i).arrival
      = (s.entry i).arrival - (s.goesAhead p i k).toNat := by
  by_cases passes : p (s.entry k) = true
  · rw [if_pos passes, State.entry_endEntry, if_neg ne]
    by_cases ahead : s.goesAhead p i k = true
    · obtain ⟨_, goes, here, less⟩ := State.goesAhead_iff.mp ahead
      rw [if_pos ⟨goes, waits, here.symm, less⟩, ahead]
      rfl
    · rw [if_neg fun all => ahead (State.goesAhead_iff.mpr ⟨passes, all.1, all.2.2.1.symm, all.2.2.2⟩),
        (Bool.not_eq_true _).mp ahead]
      rfl
  · rw [if_neg passes, State.goesAhead, (Bool.not_eq_true _).mp passes]
    rfl

theorem QueuesOrdered.endIf (queues : QueuesOrdered s) (k : EntryId) :
    QueuesOrdered (if p (s.entry k) then s.endEntry k o else s) := by
  split
  · exact queues.leaves (s.leaves_endEntry k o)
  · exact queues

/-- Who goes ahead of an entry is the same once another has ended. -/
theorem State.goesAhead_endIf (picks : Entry.Picks p) (queues : QueuesOrdered s) (behind : k ≠ i) (ahead : k ≠ j)
    (waits : (s.entry i).state = .waiting) :
    (if p (s.entry k) then s.endEntry k o else s).goesAhead p i j = s.goesAhead p i j := by
  rw [Bool.eq_iff_iff, State.goesAhead_iff, State.goesAhead_iff, picks.endIf_other ahead]
  have keptJ := State.endIf_other (p := p) (o := o) (s := s) ahead
  have kept := State.endIf_other (p := p) (o := o) (s := s) behind
  have state : ((if p (s.entry k) then s.endEntry k o else s).entry j).state = (s.entry j).state := by rw [keptJ]
  have slots : ((if p (s.entry k) then s.endEntry k o else s).entry j).slot = (s.entry j).slot
      ∧ ((if p (s.entry k) then s.endEntry k o else s).entry i).slot = (s.entry i).slot := by
    rw [keptJ, kept]
    exact ⟨rfl, rfl⟩
  rw [state, slots.1, slots.2]
  refine and_congr_right fun _ => and_congr_right fun waitsJ => and_congr_right fun same => ?_
  split
  · exact (s.leaves_endEntry k o).arrival_lt_iff queues ahead behind waitsJ waits same
  · rfl

/-- An entry that does not pass keeps all but its arrival number, which does not grow. -/
theorem State.entry_endEach_passed (is : List EntryId) (s : State) (picks : Entry.Picks p)
    (fails : p (s.entry i) = false) :
    (State.endEach p o is s).entry i = { s.entry i with arrival := ((State.endEach p o is s).entry i).arrival }
      ∧ ((State.endEach p o is s).entry i).arrival ≤ (s.entry i).arrival := by
  induction is generalizing s with
  | nil => exact ⟨rfl, Nat.le_refl _⟩
  | cons k is ih =>
    have kept : (if p (s.entry k) then s.endEntry k o else s).entry i
          = { s.entry i with arrival := ((if p (s.entry k) then s.endEntry k o else s).entry i).arrival }
        ∧ ((if p (s.entry k) then s.endEntry k o else s).entry i).arrival ≤ (s.entry i).arrival := by
      by_cases e : k = i
      · rw [e, State.endIf_self, if_neg (by simp [fails])]
        exact ⟨rfl, Nat.le_refl _⟩
      · refine ⟨State.endIf_other e, ?_⟩
        split
        · rw [State.entry_endEntry, if_neg e]
          split
          · exact Nat.sub_le _ _
          · exact Nat.le_refl _
        · exact Nat.le_refl _
    obtain ⟨same, less⟩ := ih _ (by rw [kept.1, picks.arrival, fails])
    refine ⟨same.trans ?_, less.trans kept.2⟩
    rw [kept.1]
    rfl

/-- An entry that stays in an ordered queue moves up by the number of those that leave it ahead of it. -/
theorem State.arrival_endEach (picks : Entry.Picks p) (is : List EntryId) (s : State) (nodup : is.Nodup)
    (queues : QueuesOrdered s) (waits : (s.entry i).state = .waiting) (fails : p (s.entry i) = false) :
    ((State.endEach p o is s).entry i).arrival = (s.entry i).arrival - is.countP (s.goesAhead p i) := by
  induction is generalizing s with
  | nil => rfl
  | cons k is ih =>
    obtain ⟨fresh, nodup⟩ := List.nodup_cons.mp nodup
    rw [State.endEach, List.foldl_cons, ← State.endEach, List.countP_cons]
    by_cases e : k = i
    · have self : (if p (s.entry k) then s.endEntry k o else s) = s := if_neg (by simp [e, fails])
      have behind : s.goesAhead p i k = false := by simp [State.goesAhead, e, fails]
      rw [self, ih s nodup queues waits fails, behind]
      rfl
    · have rest : is.countP ((if p (s.entry k) then s.endEntry k o else s).goesAhead p i) = is.countP (s.goesAhead p i) :=
        List.countP_congr fun j mem => by
          rw [State.goesAhead_endIf picks queues e (fun same => fresh (same ▸ mem)) waits]
      rw [ih _ nodup (queues.endIf k) (by rw [State.endIf_other e, waits]) (by rw [picks.endIf_other e, fails]), rest,
        State.arrival_endIf e waits, Nat.sub_sub, Nat.add_comm]
      cases s.goesAhead p i k <;> rfl

end

end Sys2Proof.Machine

/-! ### The entries that time out at the Claim Unit's tick (R113 to R115) -/

namespace Sys2Proof.Machine

/-! #### The end of the entries whose count has run out -/

section
variable {s : State} {i : EntryId}

/-- The state after the revocations of a tick, before its wait expiries. -/
def State.holdsEnded (s : State) : State := s.revocationRaised.endWhere Entry.holdOut .revoked

theorem State.endTimedOut_eq_holdsEnded : s.endTimedOut = s.holdsEnded.endWhere Entry.waitOut .waitExpired := rfl

/-- A HELD entry stands in no queue, so a revocation changes no other entry. -/
theorem State.entry_holdsEnded :
    s.holdsEnded.entry i = if (s.entry i).holdOut then (s.entry i).gone .revoked else s.entry i := by
  rw [State.holdsEnded]
  by_cases out : (s.entry i).holdOut = true
  · rw [if_pos out, State.entry_endWhere_ended Entry.picks_holdOut (by rwa [State.entry_revocationRaised]),
      State.entry_revocationRaised]
  · rw [if_neg out, State.entry_endWhere_kept Entry.picks_holdOut _ (by simpa [State.entry_revocationRaised] using out),
      State.entry_revocationRaised]
    intro _ j holds waits
    rw [Entry.held_of_holdOut holds] at waits
    cases waits

theorem Entry.holdOut_of_waiting {e : Entry} (waits : e.state = .waiting) : e.holdOut = false := by
  simp [Entry.holdOut, waits]

theorem Entry.waitOut_of_held {e : Entry} (holds : e.state = .held) : e.waitOut = false := by
  simp [Entry.waitOut, holds]

theorem State.entry_holdsEnded_waiting (waits : (s.entry i).state = .waiting) : s.holdsEnded.entry i = s.entry i := by
  rw [State.entry_holdsEnded, Entry.holdOut_of_waiting waits]
  rfl

/-- The revocations leave the wait expiries as they were. -/
theorem State.waitOut_holdsEnded : (s.holdsEnded.entry i).waitOut = (s.entry i).waitOut := by
  rw [State.entry_holdsEnded]
  split
  · rename_i out
    rw [Entry.waitOut_of_held (Entry.held_of_holdOut out)]
    rfl
  · rfl

theorem State.agentOf_holdsEnded : (s.holdsEnded.entry i).agent = (s.entry i).agent := by
  rw [State.entry_holdsEnded]
  split <;> rfl

/-- An entry that does not wait, and is not revoked, is kept. -/
theorem State.entry_endTimedOut_settled (settled : (s.entry i).state ≠ .waiting) (stays : (s.entry i).holdOut = false) :
    s.endTimedOut.entry i = s.entry i := by
  have kept : s.holdsEnded.entry i = s.entry i := by
    rw [State.entry_holdsEnded, stays]
    rfl
  rw [State.endTimedOut_eq_holdsEnded, State.entry_endWhere_kept Entry.picks_waitOut, kept]
  · intro waits
    rw [kept] at waits
    exact absurd waits settled
  · rw [kept]
    simp [Entry.waitOut, settled]

/-- An entry that stays in its queue keeps all but its arrival number, which does not grow. -/
theorem State.entry_endTimedOut_queued (waits : (s.entry i).state = .waiting) (stays : (s.entry i).waitOut = false) :
    s.endTimedOut.entry i = { s.entry i with arrival := (s.endTimedOut.entry i).arrival }
      ∧ (s.endTimedOut.entry i).arrival ≤ (s.entry i).arrival := by
  have passed := State.entry_endEach_passed (o := .waitExpired) (List.finRange 48) s.holdsEnded Entry.picks_waitOut
    (State.waitOut_holdsEnded.trans stays)
  rwa [State.entry_holdsEnded_waiting waits] at passed

theorem State.goesAhead_holdsEnded (waits : (s.entry i).state = .waiting) (j : EntryId) :
    s.holdsEnded.goesAhead Entry.waitOut i j = s.goesAhead Entry.waitOut i j := by
  rw [State.goesAhead, State.goesAhead, State.waitOut_holdsEnded, State.entry_holdsEnded_waiting waits]
  cases out : (s.entry j).waitOut with
  | false => simp only [Bool.false_and]
  | true => rw [State.entry_holdsEnded_waiting (Entry.waiting_of_waitOut out)]

/-- It moves up by the number of wait expiries ahead of it (R97). -/
theorem State.arrival_endTimedOut (queues : QueuesOrdered s) (waits : (s.entry i).state = .waiting)
    (stays : (s.entry i).waitOut = false) :
    (s.endTimedOut.entry i).arrival
      = (s.entry i).arrival - (List.finRange 48).countP (s.goesAhead Entry.waitOut i) := by
  have raised : QueuesOrdered s.revocationRaised := queues.of_same fun j => by
    rw [State.entry_revocationRaised]
    exact ⟨rfl, rfl, rfl⟩
  have ordered : QueuesOrdered s.holdsEnded :=
    (State.endWhere_upholds Entry.picks_holdOut.live .revoked s.revocationRaised).queues raised
  have kept := State.entry_holdsEnded_waiting waits
  have queued : (s.holdsEnded.entry i).state = .waiting := (congrArg Entry.state kept).trans waits
  rw [State.endTimedOut_eq_holdsEnded, State.endWhere_eq,
    State.arrival_endEach Entry.picks_waitOut _ _ (List.nodup_finRange 48) ordered queued
      (State.waitOut_holdsEnded.trans stays), kept, funext (State.goesAhead_holdsEnded waits)]

/-- Each agent counts its entries that timed out no more (R95, R96). -/
theorem State.agent_endTimedOut (a : AgentId) :
    s.endTimedOut.agent a
      = { s.agent a with
          inUse := (s.agent a).inUse - (List.finRange 48).countP fun i =>
            ((s.entry i).holdOut || (s.entry i).waitOut) && (s.entry i).agent == a } := by
  have raised (b : AgentId) : s.revocationRaised.agent b = s.agent b := by
    unfold State.revocationRaised
    split <;> rfl
  have split : (List.finRange 48).countP (fun i =>
        ((s.entry i).holdOut || (s.entry i).waitOut) && (s.entry i).agent == a)
      = (List.finRange 48).countP (fun i => (s.entry i).holdOut && (s.entry i).agent == a)
        + (List.finRange 48).countP fun i => (s.entry i).waitOut && (s.entry i).agent == a := by
    rw [List.countP_eq_countP_filter_add _ _ fun i => (s.entry i).holdOut, List.countP_filter, List.countP_filter]
    refine congrArg₂ (· + ·) (congrArg (List.countP · _) (funext fun i => ?_))
      (congrArg (List.countP · _) (funext fun i => ?_))
    · cases (s.entry i).holdOut <;> simp
    · cases out : (s.entry i).holdOut with
      | false => simp
      | true => simp [Entry.waitOut_of_held (Entry.held_of_holdOut out)]
  rw [State.endTimedOut_eq_holdsEnded, State.endWhere_eq,
    State.agent_endEach Entry.picks_waitOut _ _ (List.nodup_finRange 48), State.holdsEnded, State.endWhere_eq,
    State.agent_endEach Entry.picks_holdOut _ _ (List.nodup_finRange 48), ← State.endWhere_eq, ← State.holdsEnded, raised,
    split]
  simp only [State.waitOut_holdsEnded, State.agentOf_holdsEnded, State.entry_revocationRaised, Nat.sub_sub]

theorem State.attn_endTimedOut_kept (none : ∀ i, (s.entry i).holdOut = false) : s.endTimedOut.attn = s.attn := by
  have quiet : s.revocationRaised = s := if_neg (by simp [none])
  rw [State.endTimedOut_eq, State.endWhere_attn, State.endWhere_attn, quiet]

/-- Entries, agents and the causes alone may change when entries time out. -/
theorem State.endTimedOut_frame (s : State) :
    s.endTimedOut
      = { s with
          entries := s.endTimedOut.entries, agents := s.endTimedOut.agents, attn := s.endTimedOut.attn } := by
  have raised : s.revocationRaised = { s with attn := s.revocationRaised.attn } := by
    unfold State.revocationRaised
    split <;> rfl
  have ends (u : State) (p : Entry → Bool) (o : EOutcome) :
      u.endWhere p o = { u with entries := (u.endWhere p o).entries, agents := (u.endWhere p o).agents } :=
    State.endWhere_keeps (P := fun t => t = { u with entries := t.entries, agents := t.agents })
      (fun t i h => State.endEntry_frame (s := t) (i := i) o |>.trans (by rw [h])) p u rfl
  rw [State.endTimedOut_eq, ends, ends, raised]

end

end Sys2Proof.Machine

/-! ### The second step of the Claim Unit's tick: the losses, slot by slot (R103 to R105, R109) -/

namespace Sys2Proof.Machine

/-! #### A grant pass looks at one slot alone (R103) -/

/-- The two states agree on the window of a slot, on the entries that name it, and on the time. -/
structure State.AgreeOn (s t : State) (k : SlotId) : Prop where
  names : ∀ i, (t.entry i).slot = (s.entry i).slot
  entry : ∀ i, (s.entry i).slot = k → t.entry i = s.entry i
  window : t.window k = s.window k
  timebase : t.timebase = s.timebase

section
variable {s t : State} {k : SlotId} {i : EntryId}

/-- A test that only entries naming the slot pass has the same outcome in both. -/
theorem State.AgreeOn.test (agree : s.AgreeOn t k) (p : Entry → Bool) (only : ∀ e, p e = true → e.slot = k) :
    (fun j => p (t.entry j)) = fun j => p (s.entry j) := by
  funext j
  by_cases here : (s.entry j).slot = k
  · rw [agree.entry j here]
  · rw [(Bool.not_eq_true _).mp (mt (only _) here),
      (Bool.not_eq_true _).mp (mt (only _) (by rwa [agree.names]))]

theorem State.AgreeOn.heldCount (agree : s.AgreeOn t k) : t.heldCount k = s.heldCount k :=
  congrArg (List.countP · _) (agree.test (fun e => e.state == .held && e.slot == k) (by simp))

theorem State.AgreeOn.writeHeld (agree : s.AgreeOn t k) : t.writeHeld k = s.writeHeld k :=
  congrArg (List.any (List.finRange 48))
    (agree.test (fun e => e.state == .held && e.slot == k && e.kind == .write) (by simp_all))

theorem State.AgreeOn.queueHead (agree : s.AgreeOn t k) : t.queueHead k = s.queueHead k :=
  congrArg (List.find? · _)
    (agree.test (fun e => e.state == .waiting && e.slot == k && e.arrival == 1) (by simp_all))

theorem State.AgreeOn.hasRoom (agree : s.AgreeOn t k) (kind : ClaimKind) : t.HasRoom k kind ↔ s.HasRoom k kind := by
  cases kind <;> simp only [State.HasRoom, agree.heldCount, agree.writeHeld, agree.window]

theorem State.slot_grantEntry (s : State) (i j : EntryId) : ((s.grantEntry i).entry j).slot = (s.entry j).slot := by
  rw [State.grantEntry, State.entry_putEntry]
  split
  · rename_i e
    rw [e]
  · rw [State.closeQueue, State.entry_mapEntries]
    split <;> rfl

theorem State.slot_grantPass (s : State) (k : SlotId) (j : EntryId) :
    ((s.grantPass k).entry j).slot = (s.entry j).slot :=
  State.grantPass_keeps (P := fun t => (t.entry j).slot = (s.entry j).slot) k
    (fun t i h => (t.slot_grantEntry i j).trans h) s rfl

/-- The grant of one entry of the slot keeps the two states agreed. -/
theorem State.AgreeOn.grantEntry (agree : s.AgreeOn t k) (waits : (s.entry i).state = .waiting)
    (here : (s.entry i).slot = k) : (s.grantEntry i).AgreeOn (t.grantEntry i) k where
  names j := by rw [State.slot_grantEntry, State.slot_grantEntry, agree.names]
  entry j mine := by
    rw [State.slot_grantEntry] at mine
    have same := agree.entry i here
    by_cases e : i = j
    · subst e
      rw [State.entry_grantEntry_self, State.entry_grantEntry_self, same, here, agree.window, agree.timebase]
    · rw [(State.leaves_grantEntry waits).others j e, (State.leaves_grantEntry (same ▸ waits)).others j e, same,
        agree.entry j mine]
  window := by simpa using agree.window
  timebase := by simpa using agree.timebase

theorem State.AgreeOn.passLoop (n : Nat) (s t : State) (agree : s.AgreeOn t k) :
    (State.passLoop k n s).AgreeOn (State.passLoop k n t) k := by
  induction n generalizing s t with
  | zero => exact agree
  | succ n ih =>
    cases head : s.queueHead k with
    | none => rwa [State.passLoop_empty head, State.passLoop_empty (agree.queueHead.trans head)]
    | some i =>
      obtain ⟨waits, here⟩ := State.queueHead_some head
      have there := agree.queueHead.trans head
      have kind : (t.entry i).kind = (s.entry i).kind := by rw [agree.entry i here]
      by_cases room : s.HasRoom k (s.entry i).kind
      · rw [State.passLoop_grant head room, State.passLoop_grant there (kind ▸ (agree.hasRoom _).mpr room)]
        exact ih _ _ (agree.grantEntry waits here)
      · rwa [State.passLoop_full head room, State.passLoop_full there (kind ▸ mt (agree.hasRoom _).mp room)]

theorem State.AgreeOn.grantPass (agree : s.AgreeOn t k) (here : (s.entry i).slot = k) :
    (t.grantPass k).entry i = (s.grantPass k).entry i := by
  by_cases opened : (s.window k).state = .opened
  · rw [State.grantPass_opened opened, State.grantPass_opened (agree.window ▸ opened)]
    refine (State.AgreeOn.passLoop 48 s t agree).entry i ?_
    rw [← State.grantPass_opened opened, State.slot_grantPass, here]
  · rw [State.grantPass_shut opened, State.grantPass_shut (agree.window ▸ opened), agree.entry i here]

/-! #### What a grant pass does to a WAITING entry (R97, R105) -/

/-- The entry is as it was but for its arrival number, or was granted from the queue of an OPEN window. -/
def State.StaysOrGranted (s : State) (i : EntryId) (t : State) : Prop :=
  t.entry i = { s.entry i with arrival := (t.entry i).arrival }
    ∨ ((s.window (s.entry i).slot).state = .opened ∧ t.entry i = (s.grantEntry i).entry i)

theorem State.passLoop_staysOrGranted (n : Nat) (s : State) (opened : (s.window k).state = .opened)
    (waits : (s.entry i).state = .waiting) : s.StaysOrGranted i (State.passLoop k n s) := by
  induction n generalizing s with
  | zero => exact .inl rfl
  | succ n ih =>
    cases head : s.queueHead k with
    | none => rw [State.passLoop_empty head]; exact .inl rfl
    | some j =>
      by_cases room : s.HasRoom k (s.entry j).kind
      · rw [State.passLoop_grant head room]
        obtain ⟨waitsJ, here⟩ := State.queueHead_some head
        by_cases e : j = i
        · subst e
          refine .inr ⟨here ▸ opened, State.passLoop_entry_kept n _ ?_⟩
          simp [State.entry_grantEntry_self]
        · have other := (State.leaves_grantEntry waitsJ).other e
          rcases ih (s.grantEntry j) (by simpa using opened) (by rw [other, waits]) with stays | ⟨openI, granted⟩
          · exact .inl (stays.trans (by rw [other]))
          · rw [State.slot_grantEntry] at openI
            refine .inr ⟨by simpa using openI, granted.trans ?_⟩
            rw [State.entry_grantEntry_self, State.entry_grantEntry_self, other]
            simp
      · rw [State.passLoop_full head room]; exact .inl rfl

theorem State.grantPass_staysOrGranted (k : SlotId) (waits : (s.entry i).state = .waiting) :
    s.StaysOrGranted i (s.grantPass k) := by
  by_cases opened : (s.window k).state = .opened
  · rw [State.grantPass_opened opened]
    exact State.passLoop_staysOrGranted 48 s opened waits
  · exact .inl (by rw [State.grantPass_shut opened])

end

end Sys2Proof.Machine

/-! ### The losses of a tick, one after the other (R103 to R105, R109) -/

namespace Sys2Proof.Machine

/-! #### One loss (R104, R109) -/

section
variable {s t : State} {c k : SlotId} {i : EntryId}

/-- The unit of a slot where no HELD entry is left becomes FREE, and no other window changes. -/
theorem State.window_afterLoss :
    (s.afterLoss c).window k
      = if (s.window c).state = .draining ∧ s.anyHeld (s.unitSlots (s.owner c)) = false
          ∧ k ∈ s.unitSlots (s.owner c) then Window.free
        else s.window k := by
  by_cases opened : (s.window c).state = .opened
  · rw [State.afterLoss_opened opened, State.grantPass_window, if_neg (by simp [opened])]
  by_cases drains : (s.window c).state = .draining
  · rw [State.afterLoss_draining drains]
    cases held : s.anyHeld (s.unitSlots (s.owner c)) with
    | true => simp
    | false =>
      rw [if_neg Bool.false_ne_true, State.clearSlots, State.window_modifyWindows (s.unitSlots_nodup _)]
      simp [drains]
  · rw [State.afterLoss_other opened drains, if_neg (by simp [drains])]

theorem State.window_afterLoss_or_free (s : State) (c k : SlotId) :
    (s.afterLoss c).window k = s.window k ∨ (s.afterLoss c).window k = Window.free := by
  rw [State.window_afterLoss]
  split
  · exact .inr rfl
  · exact .inl rfl

/-- No window becomes OPEN, and one that stays OPEN is kept. -/
theorem State.window_afterLoss_opened (opened : ((s.afterLoss c).window k).state = .opened) :
    (s.afterLoss c).window k = s.window k :=
  (s.window_afterLoss_or_free c k).resolve_right fun free => by rw [free] at opened; cases opened

theorem State.timebase_afterLoss : (s.afterLoss c).timebase = s.timebase :=
  State.afterLoss_keeps (P := fun t => t.timebase = s.timebase) rfl (s.grantPass_timebase c)
    (s.modifyWindows_timebase _ _)

theorem State.slot_afterLoss (s : State) (c : SlotId) (i : EntryId) :
    ((s.afterLoss c).entry i).slot = (s.entry i).slot :=
  State.afterLoss_keeps (P := fun t => (t.entry i).slot = (s.entry i).slot) rfl (s.slot_grantPass c i)
    (congrArg Entry.slot (s.modifyWindows_entry _ _ i))

/-- An entry of another slot is kept. -/
theorem State.entry_afterLoss_other (ne : (s.entry i).slot ≠ c) : (s.afterLoss c).entry i = s.entry i :=
  State.afterLoss_keeps (P := fun t => t.entry i = s.entry i) rfl (State.grantPass_entry_kept fun both => ne both.2)
    (s.modifyWindows_entry _ _ i)

/-- Where the window is not OPEN every entry is kept. -/
theorem State.entry_afterLoss_shut (shut : (s.window c).state ≠ .opened) : (s.afterLoss c).entry i = s.entry i := by
  by_cases drains : (s.window c).state = .draining
  · rw [State.afterLoss_draining drains]
    split
    · rfl
    · exact s.modifyWindows_entry _ _ i
  · rw [State.afterLoss_other shut drains]

theorem State.afterLoss_frame (s : State) (c : SlotId) : s.SameBesidesTables (s.afterLoss c) :=
  State.afterLoss_keeps rfl (s.grantPass_sameBesidesTables c)
    (State.modifyWindows_keeps (P := s.SameBesidesTables) (fun _ _ h => h.trans rfl) _ s rfl)

theorem State.afterLoss_gatesReported (s : State) (c : SlotId) : s.GatesReported (s.afterLoss c) :=
  State.afterLoss_keeps (.of_same (fun _ => rfl) fun _ => rfl)
    (.of_same (fun _ => by simp [State.gate]) fun _ => by simp) (.modifyWindows (s.unitSlots_nodup _) s _)

theorem State.afterLoss_staysOrGranted (c : SlotId) (waits : (s.entry i).state = .waiting) :
    s.StaysOrGranted i (s.afterLoss c) := by
  by_cases opened : (s.window c).state = .opened
  · rw [State.afterLoss_opened opened]
    exact State.grantPass_staysOrGranted c waits
  · exact .inl (by rw [State.entry_afterLoss_shut opened])

/-! #### Loss after loss, whatever the groups -/

theorem State.window_foldl_afterLoss_or_free (ks : List SlotId) (s : State) (k : SlotId) :
    (ks.foldl State.afterLoss s).window k = s.window k ∨ (ks.foldl State.afterLoss s).window k = Window.free := by
  induction ks generalizing s with
  | nil => exact .inl rfl
  | cons c ks ih =>
    rcases ih (s.afterLoss c) with kept | free
    · rw [List.foldl_cons, kept]
      exact s.window_afterLoss_or_free c k
    · exact .inr free

theorem State.foldl_afterLoss_frame (ks : List SlotId) (s : State) :
    s.SameBesidesTables (ks.foldl State.afterLoss s) := by
  induction ks generalizing s with
  | nil => rfl
  | cons c ks ih => exact (s.afterLoss_frame c).trans (ih _)

/-- A window changes its state once, to FREE, so its gates report one change. -/
theorem State.foldl_afterLoss_gatesReported (ks : List SlotId) (s : State) :
    s.GatesReported (ks.foldl State.afterLoss s) := by
  induction ks generalizing s with
  | nil => exact .of_same (fun _ => rfl) fun _ => rfl
  | cons c ks ih =>
    refine (s.afterLoss_gatesReported c).trans (ih _) fun k => ?_
    rcases s.window_afterLoss_or_free c k with kept | free
    · exact .inl (by rw [kept])
    · refine .inr (congrArg Window.state ?_)
      exact (State.window_foldl_afterLoss_or_free ks (s.afterLoss c) k).elim id fun same => same.trans free.symm

theorem State.foldl_afterLoss_staysOrGranted (ks : List SlotId) (s : State) (waits : (s.entry i).state = .waiting) :
    s.StaysOrGranted i (ks.foldl State.afterLoss s) := by
  induction ks generalizing s with
  | nil => exact .inl rfl
  | cons c ks ih =>
    rcases State.afterLoss_staysOrGranted c waits with stays | ⟨opened, granted⟩
    · rcases ih (s.afterLoss c) (by rw [stays, waits]) with later | ⟨opened, granted⟩
      · exact .inl (later.trans (by rw [stays]; rfl))
      · rw [State.slot_afterLoss] at opened
        have kept := State.window_afterLoss_opened opened
        refine .inr ⟨kept ▸ opened, granted.trans ?_⟩
        rw [State.entry_grantEntry_self, State.entry_grantEntry_self, State.slot_afterLoss, kept,
          State.timebase_afterLoss, stays]
    · have held : ((s.afterLoss c).entry i).state ≠ .waiting := by simp [granted, State.entry_grantEntry_self]
      exact .inr ⟨opened, ((State.foldl_afterLoss_kept ks _).2 i held).trans granted⟩

/-! #### Loss after loss, where the groups are whole (R80, R103, R109) -/

variable (groups : GroupsAgree s)

theorem GroupsAgree.afterLoss (groups : GroupsAgree s) (c : SlotId) : GroupsAgree (s.afterLoss c) :=
  (s.afterLoss_events c).groups groups

include groups

/-- A DRAINING unit is DRAINING as a whole (R81). -/
theorem GroupsAgree.draining_of_owner (drains : (s.window c).state = .draining) (same : s.owner k = s.owner c) :
    (s.window k).state = .draining := by
  have owner : (s.window (s.owner c)).state = .draining := by
    rcases groups.unit_agrees (s.owner_owner c) (groups.mem_unitSlots_owner c) with agree | ⟨frozen, _⟩
    · rw [← agree, drains]
    · rw [drains] at frozen
      cases frozen
  exact (groups.unit_state (s.owner_owner c) (by simp [owner]) (same ▸ groups.mem_unitSlots_owner k)).trans owner

/-- An OPEN window stands in no unit that becomes FREE. -/
theorem GroupsAgree.window_afterLoss_of_opened (opened : (s.window k).state = .opened) (c : SlotId) :
    (s.afterLoss c).window k = s.window k := by
  rw [State.window_afterLoss, if_neg]
  rintro ⟨drains, _, mem⟩
  have := groups.draining_of_owner drains ((groups.mem_unitSlots_iff (s.owner_owner c)).mp mem)
  rw [opened] at this
  cases this

/-- The loss of a claim on one slot leaves another slot's window, if OPEN, and claims as they were. -/
theorem GroupsAgree.agreeOn_afterLoss (opened : (s.window k).state = .opened) (ne : k ≠ c) :
    s.AgreeOn (s.afterLoss c) k where
  names := s.slot_afterLoss c
  entry _ here := State.entry_afterLoss_other (here ▸ ne)
  window := groups.window_afterLoss_of_opened opened c
  timebase := State.timebase_afterLoss

omit groups in
/-- Each entry sees the pass of its own slot alone. -/
theorem State.entry_foldl_afterLoss (ks : List SlotId) (s : State) (groups : GroupsAgree s) (nodup : ks.Nodup) :
    (ks.foldl State.afterLoss s).entry i
      = if (s.window (s.entry i).slot).state = .opened ∧ (s.entry i).slot ∈ ks then
          (s.grantPass (s.entry i).slot).entry i
        else s.entry i := by
  induction ks generalizing s with
  | nil => simp
  | cons c ks ih =>
    obtain ⟨fresh, nodup⟩ := List.nodup_cons.mp nodup
    rw [List.foldl_cons, ih _ (groups.afterLoss c) nodup, State.slot_afterLoss]
    by_cases here : (s.entry i).slot = c
    · rw [if_neg fun both => fresh (here ▸ both.2), here]
      by_cases opened : (s.window c).state = .opened
      · rw [if_pos ⟨opened, List.mem_cons_self⟩, State.afterLoss_opened opened]
      · rw [if_neg fun both => opened both.1, State.entry_afterLoss_shut opened]
    · simp only [List.mem_cons, here, false_or]
      by_cases opened : (s.window (s.entry i).slot).state = .opened
      · have agree := groups.agreeOn_afterLoss opened here
        rw [agree.window, agree.grantPass rfl, State.entry_afterLoss_other here]
      · have shut : ((s.afterLoss c).window (s.entry i).slot).state ≠ .opened := fun opens =>
          opened (State.window_afterLoss_opened opens ▸ opens)
        rw [if_neg fun both => shut both.1, if_neg fun both => opened both.1, State.entry_afterLoss_other here]

/-! #### The DRAINING units that become FREE (R109) -/

/-- The unit of the slot is DRAINING, and no HELD entry names a slot of it. -/
def State.Drained (s : State) (k : SlotId) : Prop :=
  (s.window k).state = .draining ∧ ∀ i, (s.entry i).state = .held → s.owner (s.entry i).slot ≠ s.owner k

theorem GroupsAgree.drained_iff :
    s.Drained c ↔ (s.window c).state = .draining ∧ s.anyHeld (s.unitSlots (s.owner c)) = false := by
  refine and_congr_right fun _ => ?_
  rw [← Bool.not_eq_true, State.anyHeld_iff]
  simp [groups.mem_unitSlots_iff (s.owner_owner c)]

/-- One test of a slot is one of its whole unit. -/
theorem GroupsAgree.drained_congr (drained : s.Drained c) (same : s.owner k = s.owner c) : s.Drained k :=
  ⟨groups.draining_of_owner drained.1 same, same ▸ drained.2⟩

theorem GroupsAgree.window_afterLoss_freed (drained : s.Drained c) (same : s.owner k = s.owner c) :
    (s.afterLoss c).window k = Window.free := by
  obtain ⟨drains, none⟩ := groups.drained_iff.mp drained
  rw [State.window_afterLoss, if_pos ⟨drains, none, (groups.mem_unitSlots_iff (s.owner_owner c)).mpr same⟩]

theorem GroupsAgree.window_afterLoss_kept (out : ¬ (s.Drained c ∧ s.owner k = s.owner c)) :
    (s.afterLoss c).window k = s.window k := by
  rw [State.window_afterLoss, if_neg]
  rintro ⟨drains, none, mem⟩
  exact out ⟨groups.drained_iff.mpr ⟨drains, none⟩, (groups.mem_unitSlots_iff (s.owner_owner c)).mp mem⟩

/-- A slot of a unit that became FREE is on its own; every other keeps its owner. -/
theorem GroupsAgree.owner_afterLoss_freed (drained : s.Drained c) (same : s.owner k = s.owner c) :
    (s.afterLoss c).owner k = k :=
  State.owner_self (by rw [groups.window_afterLoss_freed drained same]; rfl)

theorem GroupsAgree.owner_afterLoss_kept (out : ¬ (s.Drained c ∧ s.owner k = s.owner c)) :
    (s.afterLoss c).owner k = s.owner k := by
  have kept (j : SlotId) (same : s.owner j = s.owner k) : (s.afterLoss c).window j = s.window j :=
    groups.window_afterLoss_kept (same ▸ out)
  refine State.owner_unique (s.owner_le k) (fun j above below => ?_) ?_
  · have member := State.isMember_above_owner above below
    rwa [kept j (State.owner_unique (by omega)
      (fun l low high => State.isMember_above_owner low (by omega)) (groups.owner_alone k))]
  · rw [kept _ (s.owner_owner k)]
    exact groups.owner_alone k

/-- A slot shares its unit with the same slots after the loss, unless its unit became FREE. -/
theorem GroupsAgree.owner_afterLoss_eq_iff (out : ¬ (s.Drained c ∧ s.owner k = s.owner c)) (j : SlotId) :
    (s.afterLoss c).owner j = (s.afterLoss c).owner k ↔ s.owner j = s.owner k := by
  rw [groups.owner_afterLoss_kept out]
  by_cases freed : s.Drained c ∧ s.owner j = s.owner c
  · rw [groups.owner_afterLoss_freed freed.1 freed.2]
    have apart : s.owner j ≠ s.owner k := fun e => out ⟨freed.1, e.symm.trans freed.2⟩
    exact ⟨fun e => absurd ((congrArg s.owner e).trans (s.owner_owner k)) apart, fun e => absurd e apart⟩
  · rw [groups.owner_afterLoss_kept freed]

/-- Whether a DRAINING unit that is left has a HELD entry is the same after the loss. -/
theorem GroupsAgree.drained_afterLoss_iff (out : ¬ (s.Drained c ∧ s.owner k = s.owner c)) :
    (s.afterLoss c).Drained k ↔ s.Drained k := by
  rw [State.Drained, State.Drained, groups.window_afterLoss_kept out]
  refine and_congr_right fun drains => forall_congr' fun i => ?_
  rw [State.slot_afterLoss, Ne, groups.owner_afterLoss_eq_iff out]
  by_cases same : s.owner (s.entry i).slot = s.owner k
  · have shut : (s.window (s.entry i).slot).state ≠ .opened := by simp [groups.draining_of_owner drains same]
    have kept : (s.afterLoss c).entry i = s.entry i := by
      by_cases here : (s.entry i).slot = c
      · exact State.entry_afterLoss_shut (here ▸ shut)
      · exact State.entry_afterLoss_other here
    rw [kept]
  · simp [same]

omit groups in
/-- The windows after the losses: a drained unit where one of the slots lost a claim is FREE, the others are kept. -/
theorem State.window_foldl_afterLoss (ks : List SlotId) (s : State) (groups : GroupsAgree s) (k : SlotId) :
    (s.Drained k ∧ (∃ j ∈ ks, s.owner j = s.owner k) → (ks.foldl State.afterLoss s).window k = Window.free)
      ∧ (¬ (s.Drained k ∧ ∃ j ∈ ks, s.owner j = s.owner k) → (ks.foldl State.afterLoss s).window k = s.window k) := by
  induction ks generalizing s with
  | nil => simp
  | cons c ks ih =>
    by_cases freed : s.Drained c ∧ s.owner k = s.owner c
    · have free := groups.window_afterLoss_freed freed.1 freed.2
      have goes : s.Drained k ∧ ∃ j ∈ c :: ks, s.owner j = s.owner k :=
        ⟨groups.drained_congr freed.1 freed.2, c, List.mem_cons_self, freed.2.symm⟩
      refine ⟨fun _ => ?_, fun stays => absurd goes stays⟩
      exact (State.window_foldl_afterLoss_or_free ks (s.afterLoss c) k).elim (·.trans free) id
    · have later : ((s.afterLoss c).Drained k ∧ ∃ j ∈ ks, (s.afterLoss c).owner j = (s.afterLoss c).owner k)
          ↔ s.Drained k ∧ ∃ j ∈ c :: ks, s.owner j = s.owner k := by
        simp only [groups.drained_afterLoss_iff freed, groups.owner_afterLoss_eq_iff freed, List.mem_cons]
        refine and_congr_right fun drained => ⟨fun ⟨j, mem, same⟩ => ⟨j, .inr mem, same⟩, ?_⟩
        rintro ⟨j, rfl | mem, same⟩
        · exact absurd ⟨groups.drained_congr drained same, same.symm⟩ freed
        · exact ⟨j, mem, same⟩
      have rest := ih (s.afterLoss c) (groups.afterLoss c)
      rwa [later, groups.window_afterLoss_kept freed] at rest

end

end Sys2Proof.Machine

/-! ### The Claim Unit's tick as a whole (R104, R105, R109, R113 to R115) -/

namespace Sys2Proof.Machine

section
variable {s : State} {i : EntryId} {k : SlotId}

/-! #### The count of one entry -/

/-- The tick takes the entry's countdown to 0, or finds it there. -/
def Entry.RunsOut (e : Entry) : Prop := ∃ c, e.countdown = some c ∧ c ≤ 1

theorem Entry.countDown_of_idle {e : Entry} (idle : e.state = .free ∨ e.state = .ended) : e.countDown = e :=
  if_neg (by rw [Entry.live_iff]; rcases idle with h | h <;> simp [h])

theorem Entry.countDown_of_live {e : Entry} (live : e.state = .waiting ∨ e.state = .held) :
    e.countDown = { e with countdown := e.countdown.map (· - 1) } :=
  if_pos (Entry.live_iff.mpr live)

theorem Entry.state_countDown (e : Entry) : e.countDown.state = e.state := by rw [Entry.countDown_eq]

/-- The entry ends at the tick, by revocation or by wait expiry. -/
def Entry.timesOut (e : Entry) : Bool :=
  (e.state == .waiting || e.state == .held) && (e.countdown == some 0 || e.countdown == some 1)

theorem Entry.timesOut_eq (e : Entry) : (e.countDown.holdOut || e.countDown.waitOut) = e.timesOut := by
  have small (c : Nat) : c ≤ 1 ↔ c = 0 ∨ c = 1 := by omega
  rw [Bool.eq_iff_iff, Bool.or_eq_true, Entry.holdOut_countDown, Entry.waitOut_countDown, or_comm, ← or_and_right]
  simp [Entry.timesOut, small, and_or_left, exists_or]

/-! #### After the first step -/

/-- The Claim Unit's tick after its first step: every countdown has fallen by one, and those at 0 have ended (R113). -/
def State.claimsTimed (s : State) : State := s.claimCounted.endTimedOut

theorem State.claimTick_eq : s.claimTick = s.claimCounted.lossSlots.foldl State.afterLoss s.claimsTimed := rfl

theorem State.claimsTimed_frame (s : State) :
    s.claimsTimed
      = { s with
          entries := s.claimsTimed.entries, agents := s.claimsTimed.agents, attn := s.claimsTimed.attn,
          timebase := { s.timebase with claimTicks := s.timebase.claimTicks - 1 } } :=
  s.claimCounted.endTimedOut_frame

theorem State.keeps_claimsTimed (s : State) : s.Keeps s.claimsTimed :=
  State.Keeps.trans (t := s.claimCounted) ⟨rfl, rfl, rfl⟩ s.claimCounted.endTimedOut_keeps_tables

theorem State.window_claimsTimed (s : State) (k : SlotId) : s.claimsTimed.window k = s.window k :=
  State.window_of_windows s.keeps_claimsTimed.windows k

theorem State.stamp_claimsTimed (s : State) : s.claimsTimed.timebase.stamp = s.timebase.stamp := by
  rw [State.claimsTimed_frame]

theorem State.slot_claimsTimed (s : State) (i : EntryId) : (s.claimsTimed.entry i).slot = (s.entry i).slot := by
  have ends (o : EOutcome) (t : State) (j : EntryId) : ((t.endEntry j o).entry i).slot = (t.entry i).slot := by
    rw [State.entry_endEntry]
    split
    · rename_i e
      rw [e]
      rfl
    · split <;> rfl
  rw [State.claimsTimed, State.endTimedOut_eq]
  refine State.endWhere_keeps (P := fun t => (t.entry i).slot = (s.entry i).slot) (fun t j h => (ends _ t j).trans h) _ _
    (State.endWhere_keeps (P := fun t => (t.entry i).slot = (s.entry i).slot) (fun t j h => (ends _ t j).trans h) _ _ ?_)
  rw [State.entry_revocationRaised, State.entry_claimCounted, Entry.countDown_eq]

theorem State.attn_claimsTimed_revokes (holds : (s.entry i).state = .held) (out : (s.entry i).RunsOut) :
    s.claimsTimed.attn = { s.attn with causes := s.attn.causes ||| 0x04#8 } :=
  State.attn_endTimedOut_revokes (s := s.claimCounted) (i := i)
    (by rw [State.entry_claimCounted]; exact Entry.holdOut_countDown.mpr ⟨holds, out⟩)

theorem State.attn_claimsTimed_kept (none : ∀ i, (s.entry i).state = .held → ¬ (s.entry i).RunsOut) :
    s.claimsTimed.attn = s.attn :=
  State.attn_endTimedOut_kept (s := s.claimCounted) fun i => by
    rw [State.entry_claimCounted, ← Bool.not_eq_true, Entry.holdOut_countDown]
    exact fun both => none i both.1 both.2

theorem State.entry_claimsTimed_idle (idle : (s.entry i).state = .free ∨ (s.entry i).state = .ended) :
    s.claimsTimed.entry i = s.entry i := by
  have counted : s.claimCounted.entry i = s.entry i := by
    rw [State.entry_claimCounted, Entry.countDown_of_idle idle]
  have kept : s.claimsTimed.entry i = s.claimCounted.entry i := by
    refine State.entry_endTimedOut_settled ?_ ?_ <;> rw [counted] <;> rcases idle with h | h <;> simp [Entry.holdOut, h]
  exact kept.trans counted

theorem State.entry_claimsTimed_revoked (holds : (s.entry i).state = .held) (out : (s.entry i).RunsOut) :
    s.claimsTimed.entry i = (s.entry i).gone .revoked := by
  have passes : (s.claimCounted.entry i).holdOut = true := by
    rw [State.entry_claimCounted]
    exact Entry.holdOut_countDown.mpr ⟨holds, out⟩
  rw [State.claimsTimed, State.entry_endTimedOut_held passes, State.entry_claimCounted, Entry.gone_countDown]

theorem State.entry_claimsTimed_held (holds : (s.entry i).state = .held) (stays : ¬ (s.entry i).RunsOut) :
    s.claimsTimed.entry i = { s.entry i with countdown := (s.entry i).countdown.map (· - 1) } := by
  have fails : (s.claimCounted.entry i).holdOut = false := by
    rw [State.entry_claimCounted, ← Bool.not_eq_true, Entry.holdOut_countDown]
    exact fun both => stays both.2
  have settled : (s.claimCounted.entry i).state ≠ .waiting := by
    rw [State.entry_claimCounted, Entry.state_countDown, holds]
    exact fun h => nomatch h
  rw [State.claimsTimed, State.entry_endTimedOut_settled settled fails, State.entry_claimCounted,
    Entry.countDown_of_live (.inr holds)]

theorem State.entry_claimsTimed_expired (waits : (s.entry i).state = .waiting) (out : (s.entry i).RunsOut) :
    s.claimsTimed.entry i = (s.entry i).gone .waitExpired := by
  have passes : (s.claimCounted.entry i).waitOut = true := by
    rw [State.entry_claimCounted]
    exact Entry.waitOut_countDown.mpr ⟨waits, out⟩
  rw [State.claimsTimed, State.entry_endTimedOut_waiting passes, State.entry_claimCounted, Entry.gone_countDown]

theorem State.claimCounted_waiting (waits : (s.entry i).state = .waiting) :
    (s.claimCounted.entry i).state = .waiting := by
  rw [State.entry_claimCounted, Entry.state_countDown, waits]

theorem State.claimCounted_stays (stays : ¬ (s.entry i).RunsOut) : (s.claimCounted.entry i).waitOut = false := by
  rw [State.entry_claimCounted, ← Bool.not_eq_true, Entry.waitOut_countDown]
  exact fun both => stays both.2

section
variable (waits : (s.entry i).state = .waiting) (stays : ¬ (s.entry i).RunsOut)
include waits stays

theorem State.entry_claimsTimed_queued :
    s.claimsTimed.entry i
        = { s.entry i with
            countdown := (s.entry i).countdown.map (· - 1), arrival := (s.claimsTimed.entry i).arrival }
      ∧ (s.claimsTimed.entry i).arrival ≤ (s.entry i).arrival := by
  have queued := State.entry_endTimedOut_queued (State.claimCounted_waiting waits) (State.claimCounted_stays stays)
  rwa [State.entry_claimCounted, Entry.countDown_of_live (.inl waits)] at queued

/-- A WAITING entry moves up by the number of wait expiries ahead of it in its queue (R97, R115). -/
theorem State.arrival_claimsTimed (queues : QueuesOrdered s) :
    (s.claimsTimed.entry i).arrival
      = (s.entry i).arrival - (List.finRange 48).countP fun j =>
          (s.entry j).state == .waiting && (s.entry j).timesOut && (s.entry j).slot == (s.entry i).slot
            && decide ((s.entry j).arrival < (s.entry i).arrival) := by
  have ahead : s.claimCounted.goesAhead Entry.waitOut i = fun j =>
      (s.entry j).state == .waiting && (s.entry j).timesOut && (s.entry j).slot == (s.entry i).slot
        && decide ((s.entry j).arrival < (s.entry i).arrival) := by
    funext j
    rw [State.goesAhead, State.entry_claimCounted, State.entry_claimCounted, ← Entry.timesOut_eq]
    cases waitsJ : (s.entry j).state == .waiting with
    | true =>
      have none := Entry.holdOut_of_waiting ((Entry.state_countDown _).trans (beq_iff_eq.mp waitsJ))
      rw [none, Entry.countDown_eq (s.entry j), Entry.countDown_eq (s.entry i)]
      simp [waitsJ]
    | false =>
      rw [Entry.state_countDown, waitsJ]
      simp
  have ordered := s.claimCounted_upholds.queues queues
  rw [State.claimsTimed, State.arrival_endTimedOut ordered (State.claimCounted_waiting waits)
    (State.claimCounted_stays stays), ahead, State.entry_claimCounted, Entry.countDown_eq]

end

/-- A claim still in its queue is as it was but for its count and its arrival number. -/
theorem State.entry_claimsTimed_waiting (waits : (s.claimsTimed.entry i).state = .waiting) :
    s.claimsTimed.entry i
      = { s.entry i with
          countdown := (s.claimsTimed.entry i).countdown, arrival := (s.claimsTimed.entry i).arrival } := by
  by_cases out : (s.entry i).RunsOut
  · cases state : (s.entry i).state with
    | free => rw [State.entry_claimsTimed_idle (.inl state)]
    | ended => rw [State.entry_claimsTimed_idle (.inr state)]
    | held => rw [State.entry_claimsTimed_revoked state out] at waits; cases waits
    | waiting => rw [State.entry_claimsTimed_expired state out] at waits; cases waits
  · cases state : (s.entry i).state with
    | free => rw [State.entry_claimsTimed_idle (.inl state)]
    | ended => rw [State.entry_claimsTimed_idle (.inr state)]
    | held => rw [State.entry_claimsTimed_held state out]
    | waiting => rw [(State.entry_claimsTimed_queued state out).1]

theorem State.agent_claimsTimed (a : AgentId) :
    s.claimsTimed.agent a
      = { s.agent a with
          inUse := (s.agent a).inUse - (List.finRange 48).countP fun i =>
            (s.entry i).timesOut && (s.entry i).agent == a } := by
  have agents (j : EntryId) : (s.entry j).countDown.agent = (s.entry j).agent := by rw [Entry.countDown_eq]
  rw [State.claimsTimed, State.agent_endTimedOut]
  simp only [State.entry_claimCounted, Entry.timesOut_eq, agents]
  rfl

/-! #### The slots that lost a claim -/

/-- The slot lost a HELD entry, or the head of its queue, in the first step. -/
def State.Lost (s : State) (k : SlotId) : Prop :=
  ∃ i : EntryId, (s.entry i).slot = k ∧ (s.entry i).RunsOut
    ∧ ((s.entry i).state = .held ∨ ((s.entry i).state = .waiting ∧ (s.entry i).arrival = 1))

theorem State.mem_lossSlots : k ∈ s.claimCounted.lossSlots ↔ s.Lost k := by
  have fields (i : EntryId) : (s.entry i).countDown.slot = (s.entry i).slot
      ∧ (s.entry i).countDown.arrival = (s.entry i).arrival := by
    rw [Entry.countDown_eq]
    exact ⟨rfl, rfl⟩
  simp only [State.lossSlots, List.mem_filter, List.mem_finRange, true_and, List.any_eq_true, Bool.and_eq_true,
    Bool.or_eq_true, beq_iff_eq, State.entry_claimCounted, fields, Entry.holdOut_countDown, Entry.waitOut_countDown]
  refine exists_congr fun i => and_congr_right fun _ => ?_
  rw [Entry.RunsOut, and_right_comm, ← or_and_right, and_comm]

theorem State.lossSlots_nodup (s : State) : s.lossSlots.Nodup := (List.nodup_finRange 64).filter _

theorem State.owner_claimsTimed (s : State) (k : SlotId) : s.claimsTimed.owner k = s.owner k :=
  State.owner_congr s.window_claimsTimed k

theorem GroupsAgree.claimsTimed (groups : GroupsAgree s) : GroupsAgree s.claimsTimed :=
  groups.of_windows s.window_claimsTimed

theorem State.entry_claimTick (groups : GroupsAgree s) :
    s.claimTick.entry i
      = if (s.window (s.entry i).slot).state = .opened ∧ (s.entry i).slot ∈ s.claimCounted.lossSlots then
          (s.claimsTimed.grantPass (s.entry i).slot).entry i
        else s.claimsTimed.entry i := by
  rw [State.claimTick_eq, State.entry_foldl_afterLoss _ _ groups.claimsTimed (State.lossSlots_nodup _),
    State.slot_claimsTimed, State.window_claimsTimed]

/-- What the tick frees, in the words of the obligation: a DRAINING unit that lost a claim and has no holder left. -/
theorem State.frees_iff (groups : GroupsAgree s) :
    (s.claimsTimed.Drained k ∧ ∃ j ∈ s.claimCounted.lossSlots, s.claimsTimed.owner j = s.claimsTimed.owner k)
      ↔ (s.window k).state = .draining ∧ (∃ j ∈ s.unitSlots (s.owner k), s.Lost j)
        ∧ ∀ i, (s.claimsTimed.entry i).state = .held → (s.claimsTimed.entry i).slot ∉ s.unitSlots (s.owner k) := by
  simp only [State.Drained, State.owner_claimsTimed, State.window_claimsTimed, State.mem_lossSlots,
    groups.mem_unitSlots_iff (s.owner_owner k), and_comm (a := s.Lost _), and_assoc,
    and_comm (a := ∃ j, s.owner j = s.owner k ∧ s.Lost j), ne_eq]

theorem State.gatesReported_claimTick (s : State) : s.GatesReported s.claimTick := by
  have same : s.GatesReported s.claimsTimed :=
    .of_same (fun g => by rw [State.gate, s.keeps_claimsTimed.gates, State.gate]) fun k => by rw [State.window_claimsTimed]
  exact same.trans (State.foldl_afterLoss_gatesReported _ _) fun k => .inl (by rw [State.window_claimsTimed])

end

/-- Settles O47: the first step ends what times out, and the losses that follow act slot by slot. -/
theorem claimTickCountsEveryEntry : Obligations.ClaimTickCountsEveryEntry := by
  intro s up waits out counted lost times
  refine ⟨s.claimsTimed, s.claimTick, exec_claimTick up waits, s.claimsTimed_frame,
    fun ⟨i, holds, runs⟩ => State.attn_claimsTimed_revokes holds runs, State.attn_claimsTimed_kept,
    fun i => State.entry_claimsTimed_idle, fun i => State.entry_claimsTimed_revoked,
    fun i => State.entry_claimsTimed_held, fun i => State.entry_claimsTimed_expired, fun i queued stays => ?_,
    State.agent_claimsTimed, State.foldl_afterLoss_frame _ _, (State.foldl_afterLoss_kept _ _).2, fun i queued => ?_,
    fun groups i => ?_, fun groups k => ?_, s.gatesReported_claimTick⟩
  · obtain ⟨kept, less⟩ := State.entry_claimsTimed_queued queued stays
    exact ⟨kept, less, State.arrival_claimsTimed queued stays⟩
  · refine (State.foldl_afterLoss_staysOrGranted s.claimCounted.lossSlots s.claimsTimed queued).imp id ?_
    rw [State.slot_claimsTimed, State.window_claimsTimed]
    refine fun ⟨opened, granted⟩ => ⟨opened, granted.trans ?_⟩
    rw [State.entry_grantEntry_self, State.slot_claimsTimed, State.window_claimsTimed, State.stamp_claimsTimed,
      State.entry_claimsTimed_waiting queued]
    rfl
  · intro passed
    have passes : passed ↔ (s.window (s.entry i).slot).state = .opened
        ∧ (s.entry i).slot ∈ s.claimCounted.lossSlots := and_congr_right fun _ => State.mem_lossSlots.symm
    rw [State.entry_claimTick groups]
    exact ⟨fun h => if_pos (passes.mp h), fun h => if_neg (mt passes.mpr h)⟩
  · intro goes
    have freed : _ ↔ goes := State.frees_iff groups
    have windows := State.window_foldl_afterLoss s.claimCounted.lossSlots s.claimsTimed groups.claimsTimed k
    rwa [freed, State.window_claimsTimed] at windows

end Sys2Proof.Machine

/-! ### CLEAR ALL and SETTINGS (R127, R128) -/

namespace Sys2Proof.Machine

section
variable {s t : State} {limit : Byte}

/-! #### The tables after CLEAR ALL (R128) -/

/-- Once the slots are FREE, the entries, the claims in use and the expired set are what is left to clear (R128). -/
theorem State.clearTables_eq (slots : s.clearSlots (List.finRange 64) = t) :
    s.clearTables
      = { t with
          entries := Vector.replicate 48 Entry.free, agents := tabulate 32 fun a => { s.agent a with inUse := 0 },
          attn := { t.attn with expired := 0 } } := by
  subst slots
  rfl

/-- Beside the four tables, CLEAR ALL changes the expired set alone (R128). -/
theorem State.clearTables_frame (s : State) :
    s.clearTables
      = { s with
          windows := s.clearTables.windows, entries := s.clearTables.entries, agents := s.clearTables.agents,
          gates := s.clearTables.gates, attn := { s.attn with expired := 0 } } := by
  obtain ⟨windows, gates, slots⟩ : ∃ windows gates,
      s.clearSlots (List.finRange 64) = { s with windows := windows, gates := gates } :=
    ⟨_, _, s.modifyWindows_frame _ _⟩
  rw [State.clearTables_eq slots]

/-- Gates follow the windows alone, whatever the claims, the agents and the attention state are (R145). The three are
variables: with the cleared tables in their place the kernel compares the records entry by entry. -/
theorem State.GatesReported.setClaimsAttn (h : s.GatesReported t) (entries : Vector Entry 48)
    (agents : Vector AgentRecord 32) (attn : Attention) :
    s.GatesReported { t with entries := entries, agents := agents, attn := attn } := h

/-- Each slot changes its state at most once, so each bound gate follows its slot to FREE (R128, R145). -/
theorem State.clearTables_gatesReported (s : State) : s.GatesReported s.clearTables := by
  have cleared : s.GatesReported (s.clearSlots (List.finRange 64)) :=
    .modifyWindows (List.nodup_finRange 64) s fun _ => Window.free
  generalize slots : s.clearSlots (List.finRange 64) = t at cleared
  rw [State.clearTables_eq slots]
  exact cleared.setClaimsAttn _ _ _

theorem exec_clearAll_done (due : s.commandDue .clearAll = true) :
    exec .clearAll s = .next (s.portGranted.clearTables.answered 0x40 none []) :=
  takeCommand_done due rfl rfl

/-! #### The drain limit (R127) -/

theorem exec_settings_done (due : s.commandDue (.settings limit) = true) (h : limit ≠ 0) :
    exec (.settings limit) s
      = .next (({ s.portGranted with drainLimit := limit.toNat } : State).answered 0x42 none [limit]) :=
  takeCommand_done due rfl (if_neg h)

theorem exec_settings_badField (due : s.commandDue (.settings limit) = true) (h : limit = 0) :
    exec (.settings limit) s = .next (s.portGranted.answered 0x42 (some .badField) []) :=
  takeCommand_refused due rfl (if_pos h)

end

/-- Settles O28: CLEAR ALL is the clearing of the tables, taken as one event, and the value alone decides SETTINGS. -/
theorem clearAllAndSettings : Obligations.ClearAllAndSettings := by
  refine ⟨fun s due => ?_, fun s limit due => ⟨exec_settings_done due, exec_settings_badField due⟩⟩
  exact ⟨s.portGranted.clearTables, exec_clearAll_done due, s.portGranted.clearTables_frame,
    s.portGranted.window_clearTables, s.portGranted.entry_clearTables, s.portGranted.agent_clearTables,
    s.portGranted.clearTables_gatesReported⟩

end Sys2Proof.Machine

/-! ### The Table Arbiter (R142, R158) -/

namespace Sys2Proof.Machine

section
variable {s : State} {q : Requester}

/-! #### Who waits -/

/-- A requester waits: a lane in WAITING, the port while it holds a command that does not go direct (R142, R158). -/
def State.Waits (s : State) (q : Requester) : Prop :=
  (∃ l : LaneId, q = Fin.castSucc l ∧ (s.lane l).state = .waiting)
    ∨ (q = 4 ∧ ∃ c, s.port.held = some c ∧ (∀ divider flags run, c ≠ .timebase divider flags run)
        ∧ (∀ enables qualification, c ≠ .pulseSet enables qualification) ∧ c ≠ .loadAbort)

/-- Three commands go direct: TIMEBASE, PULSE SET and LOAD ABORT (R158). -/
theorem Instr.direct_eq_false_iff {c : Instr} :
    c.direct = false
      ↔ (∀ divider flags run, c ≠ .timebase divider flags run)
        ∧ (∀ enables qualification, c ≠ .pulseSet enables qualification) ∧ c ≠ .loadAbort := by
  constructor
  · intro through
    have others {d : Instr} (goes : d.direct = true) : c ≠ d := fun e => by
      rw [e, goes] at through
      cases through
    exact ⟨fun _ _ _ => others rfl, fun _ _ => others rfl, others rfl⟩
  · rintro ⟨timebase, pulseSet, loadAbort⟩
    cases c with
    | timebase divider flags run => exact absurd rfl (timebase divider flags run)
    | pulseSet enables qualification => exact absurd rfl (pulseSet enables qualification)
    | loadAbort => exact absurd rfl loadAbort
    | _ => rfl

theorem State.requesting_port :
    s.requesting portRequester = true ↔ ∃ c, s.port.held = some c ∧ c.direct = false := by
  cases held : s.port.held <;> simp [State.requesting, portRequester, held]

theorem State.requesting_iff : s.requesting q = true ↔ s.Waits q := by
  induction q using Fin.lastCases with
  | last =>
    have lane (l : LaneId) : (4 : Requester) ≠ Fin.castSucc l := (Fin.castSucc_ne_last l).symm
    have port : s.requesting 4 = true ↔ _ := State.requesting_port
    simpa [State.Waits, lane, Instr.direct_eq_false_iff] using port
  | cast l =>
    have port : Fin.castSucc l ≠ (4 : Requester) := Fin.castSucc_ne_last l
    have lane : s.requesting (Fin.castSucc l) = ((s.lane l).state == .waiting) := s.requesting_lane l
    simp [State.Waits, port, lane]

/-! #### Who is served -/

/-- The arbiter looks at the requesters in circular order from the pointer and takes the first that waits. -/
theorem State.arbiterChoice_eq_some :
    s.arbiterChoice = some q ↔ s.Waits q ∧ ∀ d : Requester, d < q - s.pointer → ¬ s.Waits (s.pointer + d) := by
  rw [State.arbiterChoice, List.find?_map, Option.map_eq_some_iff]
  simp only [← Fin.find?_eq_find?_finRange, Fin.find?_eq_some_iff, Function.comp_apply,
    ← Bool.not_eq_true, State.requesting_iff]
  constructor
  · rintro ⟨d, ⟨waits, first⟩, rfl⟩
    rw [add_sub_cancel_left]
    exact ⟨waits, first⟩
  · rintro ⟨waits, first⟩
    exact ⟨q - s.pointer, ⟨by rwa [add_sub_cancel], first⟩, add_sub_cancel s.pointer q⟩

/-- Every requester stands somewhere in the circular order, so nobody is served only when nobody waits. -/
theorem State.arbiterChoice_eq_none : s.arbiterChoice = none ↔ ∀ q, ¬ s.Waits q := by
  simp only [State.arbiterChoice, List.find?_eq_none, List.mem_map, List.mem_finRange, true_and, State.requesting_iff]
  exact ⟨fun none q => none q ⟨q - s.pointer, add_sub_cancel s.pointer q⟩, fun none q _ => none q⟩

end

/-- Settles O4: the requesters in the order in which the arbiter looks at them, and the pointer after a grant. -/
theorem arbiterServesInCircularOrder : Obligations.ArbiterServesInCircularOrder := fun _ =>
  ⟨fun _ => State.arbiterChoice_eq_some, State.arbiterChoice_eq_none, fun q => ⟨q + 1, rfl, Fin.val_add q 1⟩⟩

end Sys2Proof.Machine

/-! ### Requests on a lane, and those of an undefined kind (R136, R137, R152) -/

namespace Sys2Proof.Machine

section
variable {s : State} {l : LaneId} {word : Word32}

/-- The lane takes word 0 or word 1 (R136). -/
theorem exec_requestWord_taken (up : s.rstLow = false) (idle : (s.lane l).state = .idle)
    (room : (s.lane l).words.length < 2) :
    exec (.requestWord l word) s = .next (s.putLane l { s.lane l with words := (s.lane l).words ++ [word] }) :=
  takeEvent_can up (by simp [Lane.takesWords, idle, room])

/-- The lane takes word 2, and the three words are its request (R136). -/
theorem exec_requestTake_taken {w0 w1 : Word32} (up : s.rstLow = false) (idle : (s.lane l).state = .idle)
    (words : (s.lane l).words = [w0, w1]) :
    exec (.requestTake l word) s
      = .next
          (s.putLane l
            { s.lane l with state := .waiting, words := [], request := some (decodeRequest w0 w1 word) }) := by
  have taken : exec (.requestTake l word) s = .next (s.putLane l ((s.lane l).take word)) :=
    takeEvent_can up (by simp [Lane.takesWords, idle, words])
  rw [taken, Lane.take, words]
  rfl

/-- A withdrawal returns the lane to word position 0 (R136). -/
theorem exec_requestWithdraw_taken (up : s.rstLow = false) (idle : (s.lane l).state = .idle)
    (words : (s.lane l).words ≠ []) :
    exec (.requestWithdraw l) s = .next (s.putLane l { s.lane l with words := [] }) :=
  takeEvent_can up (by simp [idle, words])

/-- A lane that is not IDLE takes no word (R136). -/
theorem exec_requestWord_notTaken (busy : (s.lane l).state ≠ .idle) : exec (.requestWord l word) s = .next s :=
  takeEvent_cannot (by simp [Lane.takesWords, busy])

theorem exec_requestTake_notTaken (busy : (s.lane l).state ≠ .idle) : exec (.requestTake l word) s = .next s :=
  takeEvent_cannot (by simp [Lane.takesWords, busy])

theorem Request.kindDefined_eq_false {r : Request} :
    r.kindDefined = false ↔ r.kind.toNat = 0 ∨ 7 ≤ r.kind.toNat := by
  simp only [Request.kindDefined, Bool.and_eq_false_iff, decide_eq_false_iff_not]
  omega

/-- The lane itself refuses a request of an undefined kind (R137). -/
theorem exec_badKind {r : Request} (due : s.requestDue l r = true) (undefined : r.kindDefined = false) :
    exec (.badKind l r) s
      = .next (s.laneRefused l r (if s.service = .loading then .notReady else .badKind) none) := by
  have taken : exec (.badKind l r) s = .next ((s.laneGranted l).answerBadKind l r) :=
    takeRequest_due (body := fun t => t.answerBadKind l r) (by simp [Instr.wf, undefined]) due
  rw [taken, State.answerBadKind, State.refuseRequest_laneGranted]
  rfl

end

/-- Settles O35: the state and the word position decide what a lane takes, and its own refusal is that of every block. -/
theorem laneTakesRequestsAndRefusesUndefinedKinds : Obligations.LaneTakesRequestsAndRefusesUndefinedKinds :=
  ⟨fun _ _ _ up idle => ⟨exec_requestWord_taken up idle, fun _ _ => exec_requestTake_taken up idle,
      exec_requestWithdraw_taken up idle⟩,
    fun _ _ _ busy => ⟨exec_requestWord_notTaken busy, exec_requestTake_notTaken busy⟩,
    State.requestTakenHigh_iff,
    fun _ _ _ due undefined => exec_badKind due (Request.kindDefined_eq_false.mpr undefined)⟩

end Sys2Proof.Machine

/-! ### AGENT SET (R131, R132) -/

namespace Sys2Proof.Machine

section
variable {s : State} {agent enabled cls lane quota : Byte} {a : AgentId} {c : ClassId} {l : LaneId} {i : EntryId}

/-! #### The checks in their order (R131) -/

/-- An entry that is not FREE is the agent's. -/
def State.usedBy (s : State) (a : AgentId) : Bool :=
  (List.finRange 48).any fun i => (s.entry i).state != .free && (s.entry i).agent == a

theorem State.usedBy_iff : s.usedBy a = true ↔ ∃ i : EntryId, (s.entry i).state ≠ .free ∧ (s.entry i).agent = a := by
  simp [State.usedBy]

/-- The claims of the agent stand against a record of this class, lane and quota (R131). -/
def State.ClaimsBind (s : State) (a : AgentId) (c : ClassId) (l : LaneId) (quota : Nat) : Prop :=
  ((c ≠ (s.agent a).cls ∨ l ≠ (s.agent a).lane) ∧ s.usedBy a = true) ∨ quota < (s.agent a).inUse

theorem State.agentCheck_badAgent (none : 31 < agent.toNat) :
    s.agentCheck agent enabled cls lane quota = .error .badAgent := by
  rw [State.agentCheck, agentOf_eq_none.mpr none]

theorem State.agentCheck_badField (named : agentOf agent = some a)
    (out : 1 < enabled.toNat ∨ 7 < cls.toNat ∨ 3 < lane.toNat ∨ 8 < quota.toNat) :
    s.agentCheck agent enabled cls lane quota = .error .badField := by
  rw [State.agentCheck, named]
  exact dif_neg (by omega)

section
variable (named : agentOf agent = some a) (bit : enabled.toNat ≤ 1) (clsIs : cls.toNat = c.val)
  (laneIs : lane.toNat = l.val) (small : quota.toNat ≤ 8)
include named bit clsIs laneIs small

/-- With every operand in its range, the claims of the agent bind it only where it is to be enabled (R131). -/
theorem State.agentCheck_claimsHeld (on : enabled = 1) (bind : s.ClaimsBind a c l quota.toNat) :
    s.agentCheck agent enabled cls lane quota = .error .claimsHeld := by
  have ranges : enabled.toNat ≤ 1 ∧ cls.toNat < 8 ∧ lane.toNat < 4 ∧ quota.toNat ≤ 8 := by omega
  obtain rfl : c = ⟨cls.toNat, ranges.2.1⟩ := Fin.ext clsIs.symm
  obtain rfl : l = ⟨lane.toNat, ranges.2.2.1⟩ := Fin.ext laneIs.symm
  simp only [State.agentCheck, named, dif_pos ranges]
  exact if_pos ⟨beq_iff_eq.mpr on, bind⟩

theorem State.agentCheck_accepts (free : enabled = 1 → ¬ s.ClaimsBind a c l quota.toNat) :
    s.agentCheck agent enabled cls lane quota
      = .ok (a, { enabled := enabled == 1, cls := c, lane := l, quota := quota.toNat, inUse := (s.agent a).inUse }) := by
  have ranges : enabled.toNat ≤ 1 ∧ cls.toNat < 8 ∧ lane.toNat < 4 ∧ quota.toNat ≤ 8 := by omega
  obtain rfl : c = ⟨cls.toNat, ranges.2.1⟩ := Fin.ext clsIs.symm
  obtain rfl : l = ⟨lane.toNat, ranges.2.2.1⟩ := Fin.ext laneIs.symm
  simp only [State.agentCheck, named, dif_pos ranges]
  exact if_neg fun both => free (beq_iff_eq.mp both.1) both.2

end

/-! #### The command -/

variable (due : s.commandDue (.agentSet agent enabled cls lane quota) = true)
include due

theorem exec_agentSet_refused {why : Reason} (check : s.agentCheck agent enabled cls lane quota = .error why) :
    exec (.agentSet agent enabled cls lane quota) s = .next (s.portGranted.answered 0x10 (some why) []) := by
  have granted : s.portGranted.agentCheck agent enabled cls lane quota = .error why := check
  exact takeCommand_refused (body := agentSetReply agent enabled cls lane quota) due rfl
    (by rw [agentSetReply, granted])

theorem exec_agentSet_done {r : AgentRecord} (check : s.agentCheck agent enabled cls lane quota = .ok (a, r)) :
    exec (.agentSet agent enabled cls lane quota) s
      = .next
          ((s.portGranted.loadAgent a r).answered 0x10 none ((s.portGranted.loadAgent a r).agent a).body) := by
  have granted : s.portGranted.agentCheck agent enabled cls lane quota = .ok (a, r) := check
  exact takeCommand_done (body := agentSetReply agent enabled cls lane quota) due rfl
    (by rw [agentSetReply, granted])

omit due in
/-- The record as loaded is reported in the bytes that the command carried (12.3). -/
theorem AgentRecord.body_carried (on : Bool) (clsIs : cls.toNat = c.val) (laneIs : lane.toNat = l.val) (n : Nat) :
    AgentRecord.body { enabled := on, cls := c, lane := l, quota := quota.toNat, inUse := n }
      = [yesNo on, cls, lane, quota, BitVec.ofNat 8 n] := by
  simp [AgentRecord.body, ← clsIs, ← laneIs]

end

/-- Settles O13: the first check that fails is the reason, and a record that passes them is loaded. -/
theorem agentSetChecksAndLoads : Obligations.AgentSetChecksAndLoads := by
  intro s agent enabled cls lane quota due refused
  have refuse {why : Reason} (check : s.agentCheck agent enabled cls lane quota = .error why) : refused why :=
    exec_agentSet_refused due check
  refine ⟨fun none => refuse (State.agentCheck_badAgent none), fun some out => ?_,
    fun a c l named on clsIs laneIs small => ?_⟩
  · obtain ⟨a, named⟩ := Option.ne_none_iff_exists'.mp (mt agentOf_eq_none.mp (Nat.not_lt.mpr some))
    exact refuse (State.agentCheck_badField named out)
  · have bit : enabled.toNat ≤ 1 := by rw [on]; decide
    refine ⟨fun bind => ?_, fun room free => ?_⟩
    · rw [← State.usedBy_iff] at bind
      exact refuse (State.agentCheck_claimsHeld named bit clsIs laneIs small on bind)
    · have unbound : ¬ s.ClaimsBind a c l quota.toNat := by
        rintro (⟨differs, used⟩ | less)
        · obtain ⟨i, inUse, mine⟩ := State.usedBy_iff.mp used
          rcases free with ⟨sameClass, sameLane⟩ | none
          · exact differs.elim (· sameClass) (· sameLane)
          · exact none i inUse mine
        · exact absurd room (Nat.not_le.mpr less)
      rw [exec_agentSet_done due (State.agentCheck_accepts named bit clsIs laneIs small fun _ => unbound), on]
      simp only [State.loadAgent, beq_self_eq_true, if_true, State.agent_putAgent_self,
        AgentRecord.body_carried _ clsIs laneIs]
      rfl

end Sys2Proof.Machine

/-! ### The entries of a disabled agent (R97, R133) -/

namespace Sys2Proof.Machine

section
variable {s : State} {a b : AgentId} {i j k : EntryId}

/-! #### One entry becomes FREE -/

/-- The entry is not FREE, and is the agent's. -/
def Entry.inUseBy (a : AgentId) (e : Entry) : Bool := e.state != .free && e.agent == a

theorem Entry.inUseBy_iff {e : Entry} : e.inUseBy a = true ↔ e.state ≠ .free ∧ e.agent = a := by
  simp [Entry.inUseBy]

theorem Entry.inUseBy_eq_false {e : Entry} : e.inUseBy a = false ↔ e.agent ≠ a ∨ e.state = .free := by
  rw [← Bool.not_eq_true, Entry.inUseBy_iff]
  tauto

theorem State.freeOwn_uses (uses : (s.entry k).inUseBy a = true) : s.freeOwn a k = s.freeEntry k :=
  if_pos (Entry.inUseBy_iff.mp uses)

theorem State.freeOwn_other (other : (s.entry k).inUseBy a = false) : s.freeOwn a k = s :=
  if_neg fun uses => by rw [Entry.inUseBy_iff.mpr uses] at other; cases other

/-- The agent's own entry leaves the queue it may stand in (R97). -/
theorem State.leaves_freeOwn (uses : (s.entry k).inUseBy a = true) : s.Leaves k (s.freeOwn a k) :=
  State.freeOwn_uses uses ▸ s.leaves_freeEntry k

theorem State.entry_freeOwn_self (uses : (s.entry k).inUseBy a = true) : (s.freeOwn a k).entry k = Entry.free := by
  rw [State.freeOwn_uses uses, State.entry_freeEntry, if_pos rfl]

/-- Every other entry keeps all but its arrival number. -/
theorem State.entry_freeOwn (ne : k ≠ i) :
    (s.freeOwn a k).entry i = { s.entry i with arrival := ((s.freeOwn a k).entry i).arrival } := by
  cases uses : (s.entry k).inUseBy a with
  | true => exact (State.leaves_freeOwn uses).other ne
  | false => rw [State.freeOwn_other uses]

theorem State.inUseBy_freeOwn (ne : k ≠ i) : ((s.freeOwn a k).entry i).inUseBy b = (s.entry i).inUseBy b := by
  rw [State.entry_freeOwn ne]
  rfl

theorem State.agent_freeOwn (ne : b ≠ a) : (s.freeOwn a k).agent b = s.agent b := by
  cases uses : (s.entry k).inUseBy a with
  | true =>
    rw [State.freeOwn_uses uses, State.agent_freeEntry, if_neg]
    exact fun both => ne (both.2.symm.trans (Entry.inUseBy_iff.mp uses).2)
  | false => rw [State.freeOwn_other uses]

theorem State.freeOwn_frame (s : State) (a : AgentId) (k : EntryId) :
    s.freeOwn a k = { s with entries := (s.freeOwn a k).entries, agents := (s.freeOwn a k).agents } := by
  cases uses : (s.entry k).inUseBy a with
  | true => rw [State.freeOwn_uses uses]; exact s.freeEntry_frame k
  | false => rw [State.freeOwn_other uses]

theorem QueuesOrdered.freeOwn (queues : QueuesOrdered s) (a : AgentId) (k : EntryId) :
    QueuesOrdered (s.freeOwn a k) :=
  (State.freeOwn_upholds a s k).queues queues

/-! #### One after another -/

/-- An entry that stands in no queue, and is not the agent's, is kept. -/
theorem State.entry_foldl_freeOwn_settled (is : List EntryId) (s : State) (settled : (s.entry i).state ≠ .waiting)
    (other : (s.entry i).inUseBy a = false) : (is.foldl (State.freeOwn a) s).entry i = s.entry i := by
  induction is generalizing s with
  | nil => rfl
  | cons k is ih =>
    have kept : (s.freeOwn a k).entry i = s.entry i := by
      cases uses : (s.entry k).inUseBy a with
      | false => rw [State.freeOwn_other uses]
      | true =>
        have ne : k ≠ i := fun e => by rw [e, other] at uses; cases uses
        rw [(State.leaves_freeOwn uses).others i ne, if_neg fun all => settled all.2.1]
    rw [List.foldl_cons, ih _ (by rwa [kept]) (by rwa [kept]), kept]

/-- The agent's own entries become FREE. -/
theorem State.entry_foldl_freeOwn_own (is : List EntryId) (s : State) (mem : i ∈ is)
    (uses : (s.entry i).inUseBy a = true) : (is.foldl (State.freeOwn a) s).entry i = Entry.free := by
  induction is generalizing s with
  | nil => cases mem
  | cons k is ih =>
    rw [List.foldl_cons]
    by_cases e : k = i
    · subst e
      have freed := State.entry_freeOwn_self uses
      rw [State.entry_foldl_freeOwn_settled is _ (by rw [freed]; exact nofun) (by rw [freed]; rfl), freed]
    · exact ih _ ((List.mem_cons.mp mem).resolve_left (Ne.symm e)) (by rwa [State.inUseBy_freeOwn e])

/-- An entry that is not the agent's keeps all but its arrival number. -/
theorem State.entry_foldl_freeOwn_other (is : List EntryId) (s : State) (other : (s.entry i).inUseBy a = false) :
    (is.foldl (State.freeOwn a) s).entry i
      = { s.entry i with arrival := ((is.foldl (State.freeOwn a) s).entry i).arrival } := by
  induction is generalizing s with
  | nil => rfl
  | cons k is ih =>
    have kept : (s.freeOwn a k).entry i
        = { s.entry i with arrival := ((s.freeOwn a k).entry i).arrival } := by
      by_cases e : k = i
      · rw [State.freeOwn_other (e ▸ other)]
      · exact State.entry_freeOwn e
    refine (ih _ (by rw [kept]; exact other)).trans ?_
    rw [kept]
    rfl

theorem State.agent_foldl_freeOwn (is : List EntryId) (s : State) (ne : b ≠ a) :
    (is.foldl (State.freeOwn a) s).agent b = s.agent b :=
  List.foldlRecOn (motive := fun t : State => t.agent b = s.agent b) is (State.freeOwn a) rfl
    fun _ same _ _ => (State.agent_freeOwn ne).trans same

theorem State.foldl_freeOwn_frame (s : State) (a : AgentId) (is : List EntryId) :
    is.foldl (State.freeOwn a) s
      = { s with
          entries := (is.foldl (State.freeOwn a) s).entries, agents := (is.foldl (State.freeOwn a) s).agents } :=
  List.foldlRecOn (motive := fun t : State => t = { s with entries := t.entries, agents := t.agents }) is
    (State.freeOwn a) rfl fun t same i _ => (t.freeOwn_frame a i).trans (by rw [same])

/-! #### The queues that the agent's entries leave (R97) -/

theorem State.arrival_freeOwn (ne : k ≠ i) (waits : (s.entry i).state = .waiting) :
    ((s.freeOwn a k).entry i).arrival = (s.entry i).arrival - (s.goesAhead (Entry.inUseBy a) i k).toNat := by
  by_cases ahead : s.goesAhead (Entry.inUseBy a) i k = true
  · obtain ⟨uses, goes, here, less⟩ := State.goesAhead_iff.mp ahead
    rw [(State.leaves_freeOwn uses).others i ne, if_pos ⟨goes, waits, here.symm, less⟩, ahead]
    rfl
  · rw [(Bool.not_eq_true _).mp ahead]
    cases uses : (s.entry k).inUseBy a with
    | false => rw [State.freeOwn_other uses]; rfl
    | true =>
      rw [(State.leaves_freeOwn uses).others i ne, if_neg]
      · rfl
      · exact fun all => ahead (State.goesAhead_iff.mpr ⟨uses, all.1, all.2.2.1.symm, all.2.2.2⟩)

/-- Who goes ahead of an entry is the same once another entry of the agent is FREE. -/
theorem State.goesAhead_freeOwn (queues : QueuesOrdered s) (behind : k ≠ i) (ahead : k ≠ j)
    (waits : (s.entry i).state = .waiting) :
    (s.freeOwn a k).goesAhead (Entry.inUseBy a) i j = s.goesAhead (Entry.inUseBy a) i j := by
  cases uses : (s.entry k).inUseBy a with
  | false => rw [State.freeOwn_other uses]
  | true =>
    have leaves := State.leaves_freeOwn uses
    have state : ((s.freeOwn a k).entry j).state = (s.entry j).state := by rw [leaves.other ahead]
    have slotJ : ((s.freeOwn a k).entry j).slot = (s.entry j).slot := by rw [leaves.other ahead]
    have slot : ((s.freeOwn a k).entry i).slot = (s.entry i).slot := by rw [leaves.other behind]
    rw [Bool.eq_iff_iff, State.goesAhead_iff, State.goesAhead_iff, State.inUseBy_freeOwn ahead, state, slotJ, slot]
    exact and_congr_right fun _ => and_congr_right fun waitsJ => and_congr_right fun same =>
      leaves.arrival_lt_iff queues ahead behind waitsJ waits same

/-- A WAITING entry of another agent moves up by the number of this agent's ahead of it in its queue (R97, R133). -/
theorem State.arrival_foldl_freeOwn (is : List EntryId) (s : State) (nodup : is.Nodup) (queues : QueuesOrdered s)
    (waits : (s.entry i).state = .waiting) (other : (s.entry i).inUseBy a = false) :
    ((is.foldl (State.freeOwn a) s).entry i).arrival
      = (s.entry i).arrival - is.countP (s.goesAhead (Entry.inUseBy a) i) := by
  induction is generalizing s with
  | nil => rfl
  | cons k is ih =>
    obtain ⟨fresh, nodup⟩ := List.nodup_cons.mp nodup
    rw [List.foldl_cons, List.countP_cons]
    by_cases e : k = i
    · have behind : s.goesAhead (Entry.inUseBy a) i k = false := by simp [State.goesAhead, e, other]
      rw [State.freeOwn_other (e ▸ other), ih s nodup queues waits other, behind]
      rfl
    · have rest : is.countP ((s.freeOwn a k).goesAhead (Entry.inUseBy a) i)
          = is.countP (s.goesAhead (Entry.inUseBy a) i) :=
        List.countP_congr fun j mem => by
          rw [State.goesAhead_freeOwn queues e (fun same => fresh (same ▸ mem)) waits]
      rw [ih _ nodup (queues.freeOwn a k) (by rw [State.entry_freeOwn e, waits]) (by rwa [State.inUseBy_freeOwn e]),
        rest, State.arrival_freeOwn e waits, Nat.sub_sub, Nat.add_comm]
      cases s.goesAhead (Entry.inUseBy a) i k <;> rfl

end

end Sys2Proof.Machine

/-! ### AGENT SET with enabled no (R133) -/

namespace Sys2Proof.Machine

section
variable {s : State} {a b : AgentId} {r : AgentRecord} {i : EntryId} {k : SlotId}

/-! #### After the first step -/

/-- The agent's entries are FREE and its record is loaded; the windows that lost a claim have not acted yet (R133). -/
def State.agentFreed (s : State) (a : AgentId) (r : AgentRecord) : State :=
  (s.freeAgentEntries a).putAgent a { r with inUse := 0 }

theorem State.loadAgent_disabled (off : r.enabled = false) :
    s.loadAgent a r = (s.claimedSlots a).foldl State.afterLoss (s.agentFreed a r) :=
  if_neg (by rw [off]; exact Bool.false_ne_true)

theorem State.freeAgentEntries_frame (s : State) (a : AgentId) :
    s.freeAgentEntries a
      = { s with entries := (s.freeAgentEntries a).entries, agents := (s.freeAgentEntries a).agents } := by
  have frame := s.foldl_freeOwn_frame a (List.finRange 48)
  rwa [← State.freeAgentEntries_eq] at frame

theorem State.agentFreed_frame (s : State) (a : AgentId) (r : AgentRecord) :
    s.agentFreed a r = { s with agents := (s.agentFreed a r).agents, entries := (s.agentFreed a r).entries } := by
  have frame := s.freeAgentEntries_frame a
  rw [State.agentFreed]
  generalize s.freeAgentEntries a = t at frame
  rw [frame]
  rfl

theorem State.keeps_agentFreed (s : State) (a : AgentId) (r : AgentRecord) : s.Keeps (s.agentFreed a r) :=
  (State.Keeps.foldl (State.freeOwn_keeps_tables a) (List.finRange 48) s).trans (State.putAgent_keeps_tables _ a _)

theorem State.window_agentFreed (s : State) (a : AgentId) (r : AgentRecord) (k : SlotId) :
    (s.agentFreed a r).window k = s.window k :=
  (s.keeps_agentFreed a r).window k

theorem State.owner_agentFreed (s : State) (a : AgentId) (r : AgentRecord) (k : SlotId) :
    (s.agentFreed a r).owner k = s.owner k :=
  State.owner_congr (s.window_agentFreed a r) k

theorem GroupsAgree.agentFreed (groups : GroupsAgree s) (a : AgentId) (r : AgentRecord) :
    GroupsAgree (s.agentFreed a r) :=
  groups.of_windows (s.window_agentFreed a r)

theorem State.agent_agentFreed_self (s : State) (a : AgentId) (r : AgentRecord) :
    (s.agentFreed a r).agent a = { r with inUse := 0 } :=
  State.agent_putAgent_self _ _ _

theorem State.agent_agentFreed_other (ne : b ≠ a) : (s.agentFreed a r).agent b = s.agent b := by
  rw [State.agentFreed, State.agent_putAgent, if_neg (Ne.symm ne), State.freeAgentEntries_eq,
    State.agent_foldl_freeOwn _ s ne]

/-- The entries are those of the agent's own becoming FREE, one after another. -/
theorem State.entry_agentFreed (s : State) (a : AgentId) (r : AgentRecord) (i : EntryId) :
    (s.agentFreed a r).entry i = ((List.finRange 48).foldl (State.freeOwn a) s).entry i := by
  rw [State.agentFreed, State.putAgent_entry, State.freeAgentEntries_eq]

theorem State.entry_agentFreed_own (uses : (s.entry i).inUseBy a = true) :
    (s.agentFreed a r).entry i = Entry.free := by
  rw [State.entry_agentFreed, State.entry_foldl_freeOwn_own _ s (List.mem_finRange i) uses]

theorem State.entry_agentFreed_settled (other : (s.entry i).inUseBy a = false)
    (settled : (s.entry i).state ≠ .waiting) : (s.agentFreed a r).entry i = s.entry i := by
  rw [State.entry_agentFreed, State.entry_foldl_freeOwn_settled _ s settled other]

/-- Whatever the state of the agent's entry, it is FREE after the step. -/
theorem State.free_agentFreed (mine : (s.entry i).agent = a) : ((s.agentFreed a r).entry i).state = .free := by
  by_cases free : (s.entry i).state = .free
  · rw [State.entry_agentFreed_settled (Entry.inUseBy_eq_false.mpr (.inr free)) (by rw [free]; exact nofun), free]
  · rw [State.entry_agentFreed_own (Entry.inUseBy_iff.mpr ⟨free, mine⟩)]
    rfl

section
variable (others : (s.entry i).agent ≠ a)
include others

theorem State.entry_agentFreed_other :
    (s.agentFreed a r).entry i = { s.entry i with arrival := ((s.agentFreed a r).entry i).arrival } := by
  rw [State.entry_agentFreed]
  exact State.entry_foldl_freeOwn_other _ s (Entry.inUseBy_eq_false.mpr (.inl others))

/-- A WAITING entry of another agent moves up, counted in the words of the obligation. -/
theorem State.arrival_agentFreed (queues : QueuesOrdered s) (waits : (s.entry i).state = .waiting) :
    ((s.agentFreed a r).entry i).arrival
      = (s.entry i).arrival - (List.finRange 48).countP fun j =>
          (s.entry j).state == .waiting && (s.entry j).agent == a && (s.entry j).slot == (s.entry i).slot
            && decide ((s.entry j).arrival < (s.entry i).arrival) := by
  have ahead : s.goesAhead (Entry.inUseBy a) i = fun j =>
      (s.entry j).state == .waiting && (s.entry j).agent == a && (s.entry j).slot == (s.entry i).slot
        && decide ((s.entry j).arrival < (s.entry i).arrival) := by
    funext j
    rw [Bool.eq_iff_iff, State.goesAhead_iff, Entry.inUseBy_iff]
    simp only [Bool.and_eq_true, beq_iff_eq, decide_eq_true_eq, and_assoc]
    exact ⟨fun ⟨_, mine, rest⟩ => ⟨rest.1, mine, rest.2⟩,
      fun ⟨goes, mine, rest⟩ => ⟨by rw [goes]; exact nofun, mine, goes, rest⟩⟩
  rw [State.entry_agentFreed, State.arrival_foldl_freeOwn _ s (List.nodup_finRange 48) queues waits
    (Entry.inUseBy_eq_false.mpr (.inl others)), ahead]

end

/-! #### The slots that lost a claim -/

/-- The agent has a WAITING or HELD entry that names the slot. -/
def State.HasClaimOn (s : State) (a : AgentId) (k : SlotId) : Prop :=
  ∃ i : EntryId, (s.entry i).agent = a ∧ (s.entry i).slot = k
    ∧ ((s.entry i).state = .waiting ∨ (s.entry i).state = .held)

theorem State.mem_claimedSlots : k ∈ s.claimedSlots a ↔ s.HasClaimOn a k := by
  simp only [State.claimedSlots, State.findClaim, List.mem_filter, List.mem_finRange, true_and,
    List.find?_isSome, Bool.and_eq_true, beq_iff_eq, Entry.live_iff]
  exact exists_congr fun i => ⟨fun ⟨⟨live, mine⟩, here⟩ => ⟨mine, here, live⟩,
    fun ⟨mine, here, live⟩ => ⟨⟨live, mine⟩, here⟩⟩

theorem State.claimedSlots_nodup (s : State) (a : AgentId) : (s.claimedSlots a).Nodup :=
  (List.nodup_finRange 64).filter _

/-- Where no window drains, the losses free no window. -/
theorem State.foldl_afterLoss_tables (ks : List SlotId) (s : State) (none : ∀ k, (s.window k).state ≠ .draining) :
    (ks.foldl State.afterLoss s).windows = s.windows ∧ (ks.foldl State.afterLoss s).gates = s.gates := by
  refine List.foldlRecOn (motive := fun t : State => t.windows = s.windows ∧ t.gates = s.gates) ks _ ⟨rfl, rfl⟩
    fun t same c _ => ?_
  have drains : (t.window c).state ≠ .draining := by
    rw [State.window_of_windows same.1]
    exact none c
  by_cases opened : (t.window c).state = .opened
  · rw [State.afterLoss_opened opened, State.grantPass_windows, State.grantPass_gates]
    exact same
  · rw [State.afterLoss_other opened drains]
    exact same

/-- What the losses free, in the words of the obligation: a DRAINING unit that lost a claim and has no holder left. -/
theorem State.disableFrees_iff (groups : GroupsAgree s) :
    ((s.agentFreed a r).Drained k
        ∧ ∃ j ∈ s.claimedSlots a, (s.agentFreed a r).owner j = (s.agentFreed a r).owner k)
      ↔ (s.window k).state = .draining ∧ (∃ j ∈ s.unitSlots (s.owner k), s.HasClaimOn a j)
        ∧ ∀ i, ((s.agentFreed a r).entry i).state = .held →
          ((s.agentFreed a r).entry i).slot ∉ s.unitSlots (s.owner k) := by
  simp only [State.Drained, State.owner_agentFreed, State.window_agentFreed, State.mem_claimedSlots,
    groups.mem_unitSlots_iff (s.owner_owner k), and_comm (a := s.HasClaimOn _ _), and_assoc,
    and_comm (a := ∃ j, s.owner j = s.owner k ∧ s.HasClaimOn a j), ne_eq]

theorem State.agent_loadAgent_disabled (off : r.enabled = false) :
    (s.loadAgent a r).agent a = { r with inUse := 0 } := by
  have frame := State.foldl_afterLoss_frame (s.claimedSlots a) (s.agentFreed a r)
  rw [State.loadAgent_disabled off, State.agent, congrArg State.agents frame]
  exact s.agent_agentFreed_self a r

/-- Each entry sees the pass of its own slot alone, where that slot is OPEN and lost a claim (R133). -/
theorem State.entry_loadAgent_disabled (off : r.enabled = false) (groups : GroupsAgree s) (i : EntryId) :
    let m := s.agentFreed a r
    let passed := (s.window (m.entry i).slot).state = .opened ∧ s.HasClaimOn a (m.entry i).slot
    (passed → (s.loadAgent a r).entry i = (m.grantPass (m.entry i).slot).entry i)
      ∧ (¬ passed → (s.loadAgent a r).entry i = m.entry i) := by
  intro m passed
  have entry := State.entry_foldl_afterLoss (i := i) _ m (groups.agentFreed a r) (s.claimedSlots_nodup a)
  rw [← State.loadAgent_disabled off, State.window_agentFreed] at entry
  have passes : passed ↔ (s.window (m.entry i).slot).state = .opened ∧ (m.entry i).slot ∈ s.claimedSlots a :=
    and_congr_right fun _ => State.mem_claimedSlots.symm
  exact ⟨fun h => entry.trans (if_pos (passes.mp h)), fun h => entry.trans (if_neg (mt passes.mpr h))⟩

/-- A unit that has drained becomes FREE, and every other window is kept (R133). -/
theorem State.window_loadAgent_disabled (off : r.enabled = false) (groups : GroupsAgree s) (k : SlotId) :
    let goes := (s.window k).state = .draining ∧ (∃ j ∈ s.unitSlots (s.owner k), s.HasClaimOn a j)
      ∧ ∀ i, ((s.agentFreed a r).entry i).state = .held →
        ((s.agentFreed a r).entry i).slot ∉ s.unitSlots (s.owner k)
    (goes → (s.loadAgent a r).window k = Window.free) ∧ (¬ goes → (s.loadAgent a r).window k = s.window k) := by
  have windows := State.window_foldl_afterLoss (s.claimedSlots a) (s.agentFreed a r) (groups.agentFreed a r) k
  rwa [State.disableFrees_iff groups, State.window_agentFreed, ← State.loadAgent_disabled off] at windows

theorem State.gatesReported_loadAgent (off : r.enabled = false) : s.GatesReported (s.loadAgent a r) := by
  have kept := s.keeps_agentFreed a r
  have same : s.GatesReported (s.agentFreed a r) :=
    .of_same (fun g => by rw [State.gate, kept.gates, State.gate]) fun k => by rw [kept.window]
  rw [State.loadAgent_disabled off]
  exact same.trans (State.foldl_afterLoss_gatesReported _ _) fun k => .inl (by rw [kept.window])

end

/-- Settles O14: the agent's entries become FREE first, and the losses that follow act slot by slot. -/
theorem agentDisableFreesItsEntries : Obligations.AgentDisableFreesItsEntries := by
  intro s agent cls lane quota a c l due named clsIs laneIs small lost
  let r : AgentRecord :=
    { enabled := false, cls := c, lane := l, quota := quota.toNat, inUse := (s.agent a).inUse }
  have off : r.enabled = false := rfl
  have check : s.agentCheck agent 0 cls lane quota = .ok (a, r) :=
    State.agentCheck_accepts named (by decide) clsIs laneIs small fun on => absurd on (by decide)
  have fold := s.portGranted.loadAgent_disabled (a := a) off
  refine ⟨s.portGranted.agentFreed a r, s.portGranted.loadAgent a r, ?_, s.portGranted.agentFreed_frame a r,
    s.portGranted.agent_agentFreed_self a r, fun b ne => State.agent_agentFreed_other ne,
    fun i mine => State.free_agentFreed mine,
    fun i mine used => State.entry_agentFreed_own (Entry.inUseBy_iff.mpr ⟨used, mine⟩),
    fun i other settled => State.entry_agentFreed_settled (Entry.inUseBy_eq_false.mpr other) settled,
    fun i others waits =>
      ⟨State.entry_agentFreed_other others, fun queues => State.arrival_agentFreed others queues waits⟩,
    ?_, fun i settled => ?_, fun groups i => ?_, fun groups k => ?_, fun none => ?_,
    s.portGranted.gatesReported_loadAgent off⟩
  · rw [exec_agentSet_done due check, State.agent_loadAgent_disabled off, AgentRecord.body_carried _ clsIs laneIs]
    rfl
  · rw [fold]
    exact State.foldl_afterLoss_frame _ _
  · rw [fold]
    exact (State.foldl_afterLoss_kept _ _).2 i settled
  · have whole : GroupsAgree s.portGranted := groups.of_windows fun _ => rfl
    exact State.entry_loadAgent_disabled off whole i
  · have whole : GroupsAgree s.portGranted := groups.of_windows fun _ => rfl
    have windows := State.window_loadAgent_disabled (a := a) off whole k
    rwa [State.portGranted_owner, State.portGranted_unitSlots] at windows
  · have kept := s.portGranted.keeps_agentFreed a r
    obtain ⟨windows, gates⟩ :=
      State.foldl_afterLoss_tables (s.portGranted.claimedSlots a) (s.portGranted.agentFreed a r) fun k => by
        rw [kept.window]
        exact none k
    rw [fold]
    exact ⟨windows.trans kept.windows, gates.trans kept.gates⟩

end Sys2Proof.Machine

/-! ### The latched status byte and ATTN_N (R149, R154, R155) -/

namespace Sys2Proof.Machine

/-- Bits 7 to 2 of a byte that sums six flags at their weights are the flags, and bits 1:0 are 0. -/
theorem sixFlags_getLsbD : ∀ (b7 b6 b5 b4 b3 b2 : Bool),
    let byte := BitVec.ofNat 8
      ((if b7 then 128 else 0) + (if b6 then 64 else 0) + (if b5 then 32 else 0) + (if b4 then 16 else 0)
        + (if b3 then 8 else 0) + (if b2 then 4 else 0))
    byte.getLsbD 7 = b7 ∧ byte.getLsbD 6 = b6 ∧ byte.getLsbD 5 = b5 ∧ byte.getLsbD 4 = b4 ∧ byte.getLsbD 3 = b3
      ∧ byte.getLsbD 2 = b2 ∧ byte.getLsbD 1 = false ∧ byte.getLsbD 0 = false := by
  decide

theorem State.statusByte_getLsbD (s : State) :
    s.statusByte.getLsbD 7 = s.port.held.isSome ∧ s.statusByte.getLsbD 6 = (s.service == .loading)
      ∧ s.statusByte.getLsbD 5 = s.port.respAvail ∧ s.statusByte.getLsbD 4 = s.port.respOverwritten
      ∧ s.statusByte.getLsbD 3 = s.port.discarded ∧ s.statusByte.getLsbD 2 = s.attn.asserted
      ∧ s.statusByte.getLsbD 1 = false ∧ s.statusByte.getLsbD 0 = false := by
  simpa only [State.statusByte, beq_iff_eq] using
    sixFlags_getLsbD s.port.held.isSome (s.service == .loading) s.port.respAvail s.port.respOverwritten
      s.port.discarded s.attn.asserted

theorem Attention.asserted_iff {a : Attention} : a.asserted = true ↔ (a.causes &&& a.enables) ≠ 0 := bne_iff_ne

theorem State.attnPinHigh_eq_false {s : State} :
    s.attnPinHigh = false ↔ s.rstLow = false ∧ (s.attn.causes &&& s.attn.enables) ≠ 0 := by
  rw [State.attnPinHigh, Bool.or_eq_false_iff, Bool.not_eq_false', Attention.asserted_iff]

theorem exec_frameStart_done {s : State} (up : s.rstLow = false) (idle : s.port.selected = false) :
    exec .frameStart s = .next { s with port := s.port.select s.statusByte } :=
  takeEvent_can up (by rw [idle]; rfl)

/-- Settles O7: the status byte is the sum of its six flags, and the pin is the ATTN flag outside reset. -/
theorem frameStartLatchesStatus : Obligations.FrameStartLatchesStatus :=
  ⟨fun _ up idle => exec_frameStart_done up idle, fun _ => State.attnPinHigh_eq_false, State.statusByte_getLsbD⟩

end Sys2Proof.Machine

/-! ### The commands on the attention causes and the refusal report (R150, R151, R153) -/

namespace Sys2Proof.Machine

section
variable {s : State}

theorem Attention.expiredCount_eq (a : Attention) :
    a.expiredCount = (List.finRange 64).countP fun i => a.expired.getLsbD i.val := by
  rw [Attention.expiredCount, ← List.map_coe_finRange_eq_range, List.countP_map]
  rfl

theorem exec_attentionEnable_done {enables : Byte} (due : s.commandDue (.attentionEnable enables) = true) :
    exec (.attentionEnable enables) s
      = .next
          (({ s.portGranted with attn := { s.attn with enables := enables } } : State).answered 0x50 none
            [enables, s.attn.causes]) :=
  takeCommand_done due rfl rfl

/-- What ACK leaves of the two sets, and its answer (R150). -/
theorem exec_ack_done {causes : Byte} {slots : BitVec 64} (due : s.commandDue (.ack causes slots) = true) :
    let left := { s.attn with causes := s.attn.causes &&& ~~~causes, expired := s.attn.expired &&& ~~~slots }
    exec (.ack causes slots) s
      = .next
          (({ s.portGranted with attn := left } : State).answered 0x51 none
            [left.causes, BitVec.ofNat 8 left.expiredCount]) :=
  takeCommand_done due rfl rfl

theorem exec_readExpired_done (due : s.commandDue .readExpired = true) :
    exec .readExpired s = .next (s.portGranted.answered 0x52 none (bytesOf 8 s.attn.expired.toNat)) :=
  takeCommand_done due rfl rfl

theorem exec_reportRead_done (due : s.commandDue .reportRead = true) :
    exec .reportRead s = .next (s.portGranted.answered 0x53 none s.attn.reportBody) :=
  takeCommand_done due rfl rfl

theorem exec_reportClear_done (due : s.commandDue .reportClear = true) :
    exec .reportClear s
      = .next
          (({ s.portGranted with attn := { s.attn with report := none, more := false } } : State).answered 0x54
            none []) :=
  takeCommand_done due rfl rfl

theorem Attention.reportBody_empty {a : Attention} (empty : a.report = none) :
    a.reportBody = [0, yesNo a.more] ++ List.replicate 16 0 := by
  rw [Attention.reportBody, empty]

theorem Attention.reportBody_holding {a : Attention} {c : Captured} (holding : a.report = some c) :
    a.reportBody
      = [1, yesNo a.more, BitVec.ofNat 8 c.lane.val, BitVec.ofNat 8 c.agent.val, c.kind.setWidth 8, c.tag.setWidth 8]
        ++ bytesOf 5 c.locator.toNat ++ bytesOf 2 c.length.toNat ++ [BitVec.ofNat 8 c.reason.code]
        ++ bytesOf 4 c.stamp.toNat := by
  rw [Attention.reportBody, holding]

end

/-- Settles O33: each command's effect and answer, with the report read where it is EMPTY and where it is HOLDING. -/
theorem attentionCommands : Obligations.AttentionCommands := by
  refine ⟨⟨fun s enables due => exec_attentionEnable_done due, fun s causes slots due => ?_⟩,
    fun s => ⟨exec_readExpired_done, fun due empty => ?_, fun c due holding => ?_, exec_reportClear_done⟩⟩
  · refine ⟨s.attn.causes &&& ~~~causes, s.attn.expired &&& ~~~slots, fun i lt => by simp [lt],
      fun i lt => by simp [lt], ?_⟩
    rw [exec_ack_done due, Attention.expiredCount_eq]
  · rw [exec_reportRead_done due, Attention.reportBody_empty empty]
  · rw [exec_reportRead_done due, Attention.reportBody_holding holding]

end Sys2Proof.Machine

/-! ### GATE BIND and GATES SET (R145 to R147) -/

namespace Sys2Proof.Machine

/-! #### The levels of the pins (R145, 12.3) -/

/-- A sum of distinct powers of two, one for each position that a predicate marks, has exactly the marked bits. -/
theorem sumOfMarked_testBit (n : Nat) (marked : Fin n → Bool) :
    let sum := (List.finRange n).foldl (fun acc i => acc + if marked i then 2 ^ i.val else 0) 0
    sum < 2 ^ n ∧ ∀ i : Fin n, sum.testBit i = marked i := by
  induction n with
  | zero => exact ⟨Nat.one_pos, fun i => i.elim0⟩
  | succ n ih =>
    obtain ⟨lt, bits⟩ := ih fun i => marked i.castSucc
    simp only [List.finRange_succ_last, List.foldl_append, List.foldl_map, List.foldl_cons, List.foldl_nil,
      Fin.val_castSucc, Fin.val_last]
    generalize (List.finRange n).foldl (fun acc i => acc + if marked i.castSucc then 2 ^ i.val else 0) 0 = low
      at lt bits
    rcases top : marked (Fin.last n) with _ | _
    · refine ⟨by simp; omega, Fin.lastCases ?_ fun i => ?_⟩
      · simpa [top] using Nat.testBit_lt_two_pow lt
      · simpa using bits i
    · refine ⟨by simp; omega, Fin.lastCases ?_ fun i => ?_⟩
      · simp [top, Nat.add_comm low, Nat.testBit_two_pow_add_eq, Nat.testBit_lt_two_pow lt]
      · simp [Nat.add_comm low, Nat.testBit_two_pow_add_gt i.isLt, bits i]

/-- Bit i of the pin levels is the level of GATE i. -/
theorem pinLevels_getLsbD (gates : Vector Gate 8) (g : GateId) :
    (pinLevels gates).getLsbD g.val = gates[g].pinHigh := by
  have bits := (sumOfMarked_testBit 8 fun i => gates[i].pinHigh).2 g
  rw [pinLevels, BitVec.getLsbD_ofNat, bits, decide_eq_true g.isLt, Bool.true_and]

theorem Gate.pinHigh_unbound {g : Gate} (h : g.binding = none) : g.pinHigh = g.unboundHigh := by
  rw [Gate.pinHigh, h]

theorem Gate.pinHigh_bound {g : Gate} {k : SlotId} (h : g.binding = some k) :
    g.pinHigh = if g.polarity = .activeHigh then g.active else !g.active := by
  rcases p : g.polarity with _ | _ <;> simp [Gate.pinHigh, h, p]

/-! #### GATE BIND (R146) -/

theorem gateOf_eq_none {b : Byte} : gateOf b = none ↔ 7 < b.toNat := by
  unfold gateOf
  split <;> simp <;> omega

theorem byte_eq_zero_or_one {b : Byte} (h : b.toNat ≤ 1) : b = 0 ∨ b = 1 := by
  bv_omega

/-- The polarity that a defined code names. -/
def polarityFor (code : Byte) : Polarity := if code = 0 then .activeHigh else .activeLow

/-- The mode that a defined code names. -/
def gateModeFor (code : Byte) : GateMode := if code = 0 then .level else .toggle

theorem polarityFor_code {b : Byte} (h : b.toNat ≤ 1) : (polarityFor b).code = b := by
  rcases byte_eq_zero_or_one h with rfl | rfl <;> rfl

theorem gateModeFor_code {b : Byte} (h : b.toNat ≤ 1) : (gateModeFor b).code = b := by
  rcases byte_eq_zero_or_one h with rfl | rfl <;> rfl

theorem polarityFor_eq_activeHigh {b : Byte} : polarityFor b = .activeHigh ↔ b = 0 := by
  unfold polarityFor
  split <;> simp_all

theorem gateModeFor_eq_level (b : Byte) : (gateModeFor b == .level) = (b == 0) := by
  unfold gateModeFor
  split <;> simp_all

section
variable {s : State} {gate bind slot polarity mode : Byte}

theorem gateBindReply_badField (h : 7 < gate.toNat ∨ 1 < bind.toNat ∨ 1 < polarity.toNat ∨ 1 < mode.toNat) :
    gateBindReply gate bind slot polarity mode s = s.refuse .badField := by
  unfold gateBindReply
  split
  · rfl
  · rename_i g named
    exact if_pos (h.resolve_left fun big => by rw [gateOf_eq_none.mpr big] at named; cases named)

theorem gateBind_codesDefined (b : bind.toNat ≤ 1) (p : polarity.toNat ≤ 1) (m : mode.toNat ≤ 1) :
    ¬ (1 < bind.toNat ∨ 1 < polarity.toNat ∨ 1 < mode.toNat) := by
  omega

variable {g : GateId} (named : gateOf gate = some g) (p : polarity.toNat ≤ 1) (m : mode.toNat ≤ 1)
include named p m

theorem gateBindReply_badSlot (none : slotOf slot = none) :
    gateBindReply gate 1 slot polarity mode s = s.refuse .badSlot := by
  simp only [gateBindReply, named, if_neg (gateBind_codesDefined (bind := 1) (by decide) p m), if_true, none]

theorem gateBindReply_bound {k : SlotId} (hk : slotOf slot = some k) :
    let x := (s.gate g).rebind (some k) (polarityFor polarity) (gateModeFor mode) ((s.window k).state == .opened)
    gateBindReply gate 1 slot polarity mode s = (s.putGate g x, .done x.body) := by
  simp only [gateBindReply, named, if_neg (gateBind_codesDefined (bind := 1) (by decide) p m), if_true, hk]
  rfl

theorem gateBindReply_unbound :
    let x := (s.gate g).rebind none (polarityFor polarity) (gateModeFor mode) false
    gateBindReply gate 0 slot polarity mode s = (s.putGate g x, .done x.body) := by
  have unbinds : ¬ (0 : Byte) = 1 := by decide
  simp only [gateBindReply, named, if_neg (gateBind_codesDefined (bind := 0) (by decide) p m), if_neg unbinds]
  rfl

omit named in
/-- A bound gate reports the bytes that the command carried, and its pin the phase under the polarity (12.3). -/
theorem Gate.body_bound {k : SlotId} (hk : slotOf slot = some k) (high active : Bool) :
    Gate.body { binding := some k, polarity := polarityFor polarity, mode := gateModeFor mode, unboundHigh := high,
                active := active }
      = [1, slot, polarity, mode, yesNo high, yesNo (if polarity = 0 then active else !active)] := by
  have pin := Gate.pinHigh_bound (k := k)
    (g := ⟨some k, polarityFor polarity, gateModeFor mode, high, active⟩) rfl
  simp only [polarityFor_eq_activeHigh] at pin
  simp only [Gate.body, polarityFor_code p, gateModeFor_code m, pin, Option.map_some, Option.getD_some, slotOf_byte hk]
  rfl

omit named in
/-- An unbound gate reports slot byte 0, and its pin the unbound level (12.3, assumption 8). -/
theorem Gate.body_unbound (high active : Bool) :
    Gate.body { binding := none, polarity := polarityFor polarity, mode := gateModeFor mode, unboundHigh := high,
                active := active }
      = [0, 0, polarity, mode, yesNo high, yesNo high] := by
  simp only [Gate.body, polarityFor_code p, gateModeFor_code m, Gate.pinHigh_unbound]
  rfl

end

/-- GATES SET's effect and answer (R147); what it leaves in each gate is `gate_levels`. -/
theorem exec_gatesSet_done {s : State} {levels : Byte} (due : s.commandDue (.gatesSet levels) = true) :
    let t := (gatesSetReply levels s.portGranted).1
    exec (.gatesSet levels) s = .next (t.answered 0x49 none [pinLevels t.gates]) :=
  takeCommand_done due rfl rfl

/-- Settles O32: the first check that fails is the reason, the reloaded gate reports itself, and GATES SET acts on each
gate by its own binding. -/
theorem gateCommandsLoadGates : Obligations.GateCommandsLoadGates := by
  refine ⟨fun s gate bind slot polarity mode due => ?_, fun s levels due => ?_⟩
  · refine ⟨fun out => takeCommand_refused due rfl (gateBindReply_badField out), ?_, ?_, ?_⟩
    · rintro some rfl p m none
      obtain ⟨g, named⟩ := Option.ne_none_iff_exists'.mp (mt gateOf_eq_none.mp (Nat.not_lt.mpr some))
      exact takeCommand_refused due rfl (gateBindReply_badSlot named p m (slotOf_eq_none.mpr none))
    · rintro g k named rfl p m hk
      have reply := gateBindReply_bound (s := s.portGranted) named p m hk
      simp only [Gate.rebind, gateModeFor_eq_level, Gate.body_bound p m hk] at reply
      exact takeCommand_done due rfl reply
    · rintro g named rfl p m
      have reply := gateBindReply_unbound (s := s.portGranted) (slot := slot) named p m
      simp only [Gate.rebind, Gate.body_unbound p m] at reply
      exact takeCommand_done due rfl reply
  · refine ⟨_, _, exec_gatesSet_done due, rfl, fun g => ?_⟩
    have loaded := gate_levels s.portGranted levels g
    rw [State.portGranted_gate] at loaded
    rw [pinLevels_getLsbD]
    refine ⟨fun unbound => ?_, fun k bound => ?_⟩
    · rw [if_pos unbound] at loaded
      exact ⟨loaded, (congrArg Gate.pinHigh loaded).trans (Gate.pinHigh_unbound unbound)⟩
    · rw [if_neg (by rw [bound]; exact Option.some_ne_none k)] at loaded
      exact ⟨loaded, (congrArg Gate.pinHigh loaded).trans (Gate.pinHigh_bound bound)⟩

end Sys2Proof.Machine

/-! ### The frames of the management port -/

namespace Sys2Proof.Machine

/-! #### The bytes of a frame (R154, R156) -/

/-- A byte whose eight bits stand first is the first byte of the frame, complete whatever follows. -/
theorem frameBytes_byteBits_append (b : Byte) (more : List Bool) :
    frameBytes (byteBits b ++ more) = b :: frameBytes more := by
  have count : (byteBits b ++ more).length / 8 = more.length / 8 + 1 := by
    rw [List.length_append, byteBits_length]; omega
  have head : (byteBits b ++ more).take 8 = byteBits b := List.take_left' (byteBits_length b)
  have tail : (byteBits b ++ more).drop 8 = more := List.drop_left' (byteBits_length b)
  rw [frameBytes, count, bytesOfBits, head, tail, byteOfBits_byteBits, frameBytes]

/-- READ RESPONSE is outside the table of operand counts: it is not judged by its length (R156). -/
theorem operandCount_readResponseCode : operandCount Config.readResponseCode = none := rfl

/-- A code that spells no command has no operand count. -/
theorem operandCount_of_parseCommand_none {code : Byte} {ops : List Byte} (unspelled : parseCommand code ops = none) :
    operandCount code = none := by
  unfold parseCommand at unspelled
  split at unspelled
  case h_30 => simp [operandCount, *]
  all_goals cases unspelled

/-- Every code with an operand count spells a command from its operands (R156, case 7). -/
theorem parseCommand_of_operandCount {code : Byte} {n : Nat} (count : operandCount code = some n) (ops : List Byte) :
    ∃ c, parseCommand code ops = some c :=
  Option.ne_none_iff_exists'.mp fun unspelled => by simp [operandCount_of_parseCommand_none unspelled] at count

/-! #### What the port does at the end of a frame (R156, R160) -/

section
variable {p : Port} {service : Service} {bytes : List Byte} {extra : List Bool} {code : Byte} {ops : List Byte}

theorem Port.endFrame_readResponse (more : List Bool) :
    p.endFrame service (byteBits Config.readResponseCode ++ more) = p.endReadResponse := by
  have bits : byteBits Config.readResponseCode ++ more ≠ [] := by simp [byteBits]
  rw [Port.endFrame, if_neg bits, if_pos (by rw [frameBytes_byteBits_append]; rfl)]

theorem Port.endFrame_judge (short : extra.length < 8) (notEmpty : ¬ (bytes = [] ∧ extra = []))
    (other : bytes.head? ≠ some Config.readResponseCode) :
    p.endFrame service (bytes.flatMap byteBits ++ extra) = p.judge service bytes extra.length := by
  have left : (bytes.flatMap byteBits ++ extra).length % 8 = extra.length := by
    rw [List.length_append, flatMap_byteBits_length]; omega
  have bits : bytes.flatMap byteBits ++ extra ≠ [] := by
    intro none
    have := congrArg List.length none
    rw [List.length_append, flatMap_byteBits_length, List.length_nil] at this
    exact notEmpty ⟨List.length_eq_zero_iff.mp (by omega), List.length_eq_zero_iff.mp (by omega)⟩
  rw [Port.endFrame, if_neg bits, frameBytes_flatMap short, if_neg other, left]

theorem Port.judge_busy {extraBits : Nat} (busy : p.held ≠ none) :
    p.judge service bytes extraBits = { p.close with discarded := true } := by
  simp [Port.judge, Option.isSome_iff_ne_none.mpr busy]

variable (idle : p.held = none) {extraBits : Nat}
include idle

theorem Port.judge_noCode : p.judge service [] extraBits = p.refuseFrame 0 .frame := by
  simp [Port.judge, idle]

theorem Port.judge_unknown (unknown : operandCount code = none) :
    p.judge service (code :: ops) extraBits = p.refuseFrame code .badCommand := by
  simp [Port.judge, idle, unknown]

theorem Port.judge_wrongLength {n : Nat} (count : operandCount code = some n)
    (wrong : ops.length ≠ n ∨ extraBits ≠ 0) :
    p.judge service (code :: ops) extraBits = p.refuseFrame code .frame := by
  simp [Port.judge, idle, count, wrong]

theorem Port.judge_loading (count : operandCount code = some ops.length)
    (waits : service = .loading ∧ code ≠ Config.statusCode ∧ code ≠ Config.loadAbortCode) :
    p.judge service (code :: ops) 0 = p.refuseFrame code .loading := by
  simp [Port.judge, idle, count, waits]

theorem Port.judge_accepted {c : Instr} (count : operandCount code = some ops.length)
    (served : ¬ (service = .loading ∧ code ≠ Config.statusCode ∧ code ≠ Config.loadAbortCode))
    (spelled : parseCommand code ops = some c) :
    p.judge service (code :: ops) 0 = p.accept c := by
  have fits : ¬ (ops.length ≠ ops.length ∨ 0 ≠ 0) := by simp
  simp only [Port.judge, idle, count, if_neg fits, if_neg served, spelled]
  rfl

end

/-! #### FRAME_END (R156) -/

section
variable {s : State} {bytes : List Byte} {extra : List Bool}

/-- The end of a frame of these bytes and fewer than eight bits more. -/
theorem exec_frameEnd_ends (up : s.rstLow = false) (selected : s.port.selected = true) (short : extra.length < 8)
    (can : s.port.copied = false ∨ bytes.head? = some Config.readResponseCode) :
    exec (.frameEnd (bytes.flatMap byteBits) extra) s
      = .next { s with port := s.port.endFrame s.service (bytes.flatMap byteBits ++ extra) } := by
  have whole : frameBytes (bytes.flatMap byteBits) = bytes := by
    simpa using frameBytes_flatMap (bytes := bytes) (extra := []) (by decide)
  refine takeEvent_can up ?_
  rcases can with uncopied | read
  · simp [Instr.wf, Port.frameCanEnd, selected, short, uncopied]
  · simp [Instr.wf, Port.frameCanEnd, selected, short, whole, read]

variable (up : s.rstLow = false) (selected : s.port.selected = true) (uncopied : s.port.copied = false)
include up selected uncopied

/-- A frame of zero length changes no flag (R154). -/
theorem exec_frameEnd_empty : exec (.frameEnd [] []) s = .next { s with port := s.port.close } :=
  exec_frameEnd_ends (bytes := []) up selected (by decide) (.inl uncopied)

/-- A frame that is no READ RESPONSE and is not empty is judged. -/
theorem exec_frameEnd_judge (short : extra.length < 8) (notEmpty : ¬ (bytes = [] ∧ extra = []))
    (other : bytes.head? ≠ some Config.readResponseCode) :
    exec (.frameEnd (bytes.flatMap byteBits) extra) s
      = .next { s with port := s.port.judge s.service bytes extra.length } := by
  rw [exec_frameEnd_ends up selected short (.inl uncopied), Port.endFrame_judge short notEmpty other]

end

/-- Settles O8: each case of R156 is a case of `Port.judge`, and the empty frame comes before them all. -/
theorem frameEndIsJudged : Obligations.FrameEndIsJudged := by
  intro s bytes extra up selected uncopied short other bits closed refused
  have judged := fun notEmpty => exec_frameEnd_judge up selected uncopied short (bytes := bytes) notEmpty other
  refine ⟨?empty, ?busy, ?noCode, ?unknown, ?wrongLength, ?loading, ?accepted⟩
  case empty =>
    rintro rfl rfl
    exact exec_frameEnd_empty up selected uncopied
  case busy =>
    intro notEmpty busy
    exact (judged notEmpty).trans (by rw [Port.judge_busy busy]; rfl)
  case noCode =>
    rintro idle rfl more
    exact (judged fun none => more none.2).trans (by rw [Port.judge_noCode idle]; rfl)
  case unknown =>
    rintro code ops idle rfl unknown
    exact (judged (by simp)).trans (by rw [Port.judge_unknown idle unknown]; rfl)
  case wrongLength =>
    rintro code ops n idle rfl count wrong
    refine (judged (by simp)).trans ?_
    rw [Port.judge_wrongLength idle count (wrong.imp_right (mt List.length_eq_zero_iff.mp))]
    rfl
  case loading =>
    rintro code ops _ idle rfl count rfl rfl loading notStatus notAbort
    exact (judged (by simp)).trans (by
      rw [List.length_nil, Port.judge_loading idle count ⟨loading, notStatus, notAbort⟩]; rfl)
  case accepted =>
    rintro code ops _ idle rfl count rfl rfl served
    obtain ⟨c, spelled⟩ := parseCommand_of_operandCount count ops
    refine ⟨c, spelled, (judged (by simp)).trans ?_⟩
    rw [List.length_nil, Port.judge_accepted idle count _ spelled]
    · rfl
    · rintro ⟨loading, notStatus, notAbort⟩
      rcases served with ready | status | abort
      · rw [ready] at loading; cases loading
      · exact notStatus status
      · exact notAbort abort

/-! #### READ RESPONSE and MSDO (R154, R157) -/

/-- The code byte of a READ RESPONSE frame, in the order of its bits. -/
theorem byteBits_readResponseCode :
    byteBits Config.readResponseCode = [false, false, false, false, false, false, true, false] := by decide

section
variable {s : State} (up : s.rstLow = false) (selected : s.port.selected = true)
include up selected

theorem exec_shiftOutCopy_done (uncopied : s.port.copied = false) :
    exec .shiftOutCopy s = .next { s with port := s.port.copyOut } :=
  takeEvent_can up (by rw [selected, uncopied]; rfl)

theorem exec_readResponse_done (more : List Bool) :
    exec (.readResponse (byteBits Config.readResponseCode ++ more)) s
      = .next { s with port := s.port.endReadResponse } :=
  takeEvent_can up (by simp [selected, Instr.wf, frameBytes_byteBits_append])

/-- FRAME_END of a READ RESPONSE frame is its READ_RESPONSE, with or without the shift-out copy before it (R156, case 1). -/
theorem exec_frameEnd_readResponse {more extra : List Bool} (whole : more.length % 8 = 0) (short : extra.length < 8) :
    exec (.frameEnd (byteBits Config.readResponseCode ++ more) extra) s
      = exec (.readResponse (byteBits Config.readResponseCode ++ more)) s := by
  have can : (Instr.frameEnd (byteBits Config.readResponseCode ++ more) extra).wf
      && s.port.frameCanEnd (byteBits Config.readResponseCode ++ more) := by
    simp [Instr.wf, Port.frameCanEnd, selected, short, frameBytes_byteBits_append]
    omega
  refine (takeEvent_can up can).trans ?_
  rw [exec_readResponse_done up selected, List.append_assoc, Port.endFrame_readResponse]

end

/-- MSDO shows the status byte, then the shift-out register, then 0, each byte most significant bit first (R154, R157). -/
theorem Port.msdoBit_selected {p : Port} (selected : p.selected = true) (k : Nat) {i : Nat} (lt : i < 8) :
    p.msdoBit (8 * k + i)
      = some ((if k = 0 then p.statusLatch else p.shiftOut.getD (k - 1) 0).getLsbD (7 - i)) := by
  have byte : (8 * k + i) / 8 = k := by omega
  have bit : (8 * k + i) % 8 = i := by omega
  rw [Port.msdoBit, byte, bit]
  cases k <;> simp [Port.msdoByte, selected]

theorem Port.msdoBit_unselected {p : Port} (idle : p.selected = false) (n : Nat) : p.msdoBit n = none := by
  simp [Port.msdoBit, Port.msdoByte, idle]

/-- Settles O9: the copy is `Port.copyOut`, the end of the frame `Port.endReadResponse`, which copies if no copy was made
before. -/
theorem readResponseReturnsBuffer : Obligations.ReadResponseReturnsBuffer := by
  refine ⟨fun s up selected => ?_, fun s => ⟨fun selected k i => s.port.msdoBit_selected selected k,
    s.port.msdoBit_unselected⟩⟩
  intro code
  have spelled : code = byteBits Config.readResponseCode := byteBits_readResponseCode.symm
  rw [spelled]
  refine ⟨exec_shiftOutCopy_done up selected, fun more copied => ?_, fun more uncopied unplaced => ?_,
    fun more extra => exec_frameEnd_readResponse up selected⟩
  · rw [exec_readResponse_done up selected, Port.endReadResponse, if_pos copied]
    rfl
  · rw [exec_readResponse_done up selected, Port.endReadResponse, uncopied, unplaced]
    simp [Port.copyOut, Port.close, uncopied, unplaced]

end Sys2Proof.Machine

/-! ### The wire fields of chapter 12 -/

namespace Sys2Proof.Machine

/-! #### Numbers of several bytes, most significant byte first -/

theorem bytesOf_eq_map (n v : Nat) :
    bytesOf n v = (List.range n).map fun i => BitVec.ofNat 8 (v / 256 ^ (n - 1 - i)) := by
  induction n generalizing v with
  | zero => rfl
  | succ n ih =>
    rw [bytesOf, ih, List.range_succ, List.map_append, List.map_singleton, Nat.add_sub_cancel, Nat.sub_self,
      Nat.pow_zero, Nat.div_one]
    congr 1
    refine List.map_congr_left fun i mem => ?_
    have lt := List.mem_range.mp mem
    rw [Nat.div_div_eq_div_mul, ← Nat.pow_succ', show (n - 1 - i).succ = n - i by omega]

/-- Byte i of a word is its bits from 8 i up. -/
theorem ofNat_div_eq_extractLsb' {w : Nat} (x : BitVec w) (i : Nat) :
    BitVec.ofNat 8 (x.toNat / 256 ^ i) = x.extractLsb' (8 * i) 8 := by
  rw [BitVec.extractLsb', Nat.shiftRight_eq_div_pow, Nat.pow_mul]

/-- The bytes of a word are its bits, eight at a time from the top. -/
theorem bytesOf_toNat (n : Nat) {w : Nat} (x : BitVec w) :
    bytesOf n x.toNat = (List.range n).map fun i => x.extractLsb' (8 * (n - 1 - i)) 8 := by
  rw [bytesOf_eq_map]
  exact List.map_congr_left fun i _ => ofNat_div_eq_extractLsb' x _

/-- A number is read back from its bytes. -/
theorem natOf_bytesOf (n v : Nat) : natOf (bytesOf n v) = v % 256 ^ n := by
  induction n generalizing v with
  | zero => simp [natOf, bytesOf, Nat.mod_one]
  | succ n ih =>
    have read : natOf (bytesOf (n + 1) v) = natOf (bytesOf n (v / 256)) * 256 + v % 256 := by
      simp [bytesOf, natOf]
    rw [read, ih, Nat.pow_succ', Nat.mod_mul]
    omega

/-- A word is read back from its bytes. -/
theorem ofNat_natOf_bytesOf {n w : Nat} (x : BitVec w) (h : w = 8 * n) :
    BitVec.ofNat w (natOf (bytesOf n x.toNat)) = x := by
  have lt : x.toNat < 256 ^ n := by simpa [h, Nat.pow_mul] using x.isLt
  rw [natOf_bytesOf, Nat.mod_eq_of_lt lt, BitVec.ofNat_toNat, BitVec.setWidth_eq]

theorem bytesOf_two (x : BitVec 16) : bytesOf 2 x.toNat = [x.extractLsb' 8 8, x.extractLsb' 0 8] := bytesOf_toNat 2 x

theorem bytesOf_four (x : BitVec 32) :
    bytesOf 4 x.toNat = [x.extractLsb' 24 8, x.extractLsb' 16 8, x.extractLsb' 8 8, x.extractLsb' 0 8] :=
  bytesOf_toNat 4 x

theorem bytesOf_five (x : BitVec 40) :
    bytesOf 5 x.toNat
      = [x.extractLsb' 32 8, x.extractLsb' 24 8, x.extractLsb' 16 8, x.extractLsb' 8 8, x.extractLsb' 0 8] :=
  bytesOf_toNat 5 x

theorem bytesOf_eight (x : BitVec 64) :
    bytesOf 8 x.toNat
      = [x.extractLsb' 56 8, x.extractLsb' 48 8, x.extractLsb' 40 8, x.extractLsb' 32 8, x.extractLsb' 24 8,
          x.extractLsb' 16 8, x.extractLsb' 8 8, x.extractLsb' 0 8] :=
  bytesOf_toNat 8 x

/-! #### The window field block (12.3) -/

theorem FieldBlock.bytes_eq (b : FieldBlock) :
    b.bytes
      = [b.base.extractLsb' 32 8, b.base.extractLsb' 24 8, b.base.extractLsb' 16 8, b.base.extractLsb' 8 8,
          b.base.extractLsb' 0 8, b.granule, b.span.extractLsb' 8 8, b.span.extractLsb' 0 8, b.access,
          b.rights.extractLsb' 8 8, b.rights.extractLsb' 0 8, b.laneMask, b.claimLimit, b.holdLimit, b.leaseMode,
          b.leaseReload.extractLsb' 8 8, b.leaseReload.extractLsb' 0 8, b.expiryAction, b.idleLimit, b.flags]
        ++ [b.walkStart.extractLsb' 32 8, b.walkStart.extractLsb' 24 8, b.walkStart.extractLsb' 16 8,
          b.walkStart.extractLsb' 8 8, b.walkStart.extractLsb' 0 8, b.stride, b.stepLimit.extractLsb' 8 8,
          b.stepLimit.extractLsb' 0 8] := by
  simp only [FieldBlock.bytes, bytesOf_two, bytesOf_five]
  rfl

/-- A block is read back from its bytes: each field of more than one byte stands in its bytes of the 28. -/
theorem parseBlock_bytes (b : FieldBlock) : parseBlock b.bytes = b := by
  have base : fieldAt b.bytes 0 5 = natOf (bytesOf 5 b.base.toNat) := by rw [b.bytes_eq, bytesOf_five]; rfl
  have span : fieldAt b.bytes 6 2 = natOf (bytesOf 2 b.span.toNat) := by rw [b.bytes_eq, bytesOf_two]; rfl
  have rights : fieldAt b.bytes 9 2 = natOf (bytesOf 2 b.rights.toNat) := by rw [b.bytes_eq, bytesOf_two]; rfl
  have reload : fieldAt b.bytes 15 2 = natOf (bytesOf 2 b.leaseReload.toNat) := by rw [b.bytes_eq, bytesOf_two]; rfl
  have start : fieldAt b.bytes 20 5 = natOf (bytesOf 5 b.walkStart.toNat) := by rw [b.bytes_eq, bytesOf_five]; rfl
  have limit : fieldAt b.bytes 26 2 = natOf (bytesOf 2 b.stepLimit.toNat) := by rw [b.bytes_eq, bytesOf_two]; rfl
  simp only [parseBlock, base, span, rights, reload, start, limit, ofNat_natOf_bytesOf]
  rw [b.bytes_eq]
  rfl

/-! #### Fields of a word (12.1) -/

/-- The field of a word that is a number: the digits of the number that stand there. -/
theorem extractLsb'_ofNat_toNat {w : Nat} (n start len : Nat) (fits : start + len ≤ w) :
    ((BitVec.ofNat w n).extractLsb' start len).toNat = n / 2 ^ start % 2 ^ len := by
  have pow : 2 ^ w = 2 ^ start * 2 ^ (w - start) := by rw [← Nat.pow_add]; congr 1; omega
  rw [BitVec.extractLsb'_toNat, BitVec.toNat_ofNat, Nat.shiftRight_eq_div_pow, pow, Nat.mod_mul_right_div_self,
    Nat.mod_mod_of_dvd _ (Nat.pow_dvd_pow 2 (by omega))]

/-- A word field spells what the digits of the number there are. -/
theorem extractLsb'_ofNat_eq {w n start len : Nat} {x : BitVec len} (fits : start + len ≤ w)
    (digits : n / 2 ^ start % 2 ^ len = x.toNat) : (BitVec.ofNat w n).extractLsb' start len = x :=
  BitVec.eq_of_toNat_eq ((extractLsb'_ofNat_toNat n start len fits).trans digits)

/-- A one-bit field of a word that is a number. -/
theorem getLsbD_ofNat_eq {w n i : Nat} {b : Bool} (lt : i < w) (digit : n / 2 ^ i % 2 = b.toNat) :
    (BitVec.ofNat w n).getLsbD i = b := by
  rw [BitVec.getLsbD_ofNat, decide_eq_true lt, Bool.true_and, Nat.testBit_eq_decide_div_mod_eq, digit]
  cases b <;> rfl

theorem decodeRequest_words (r : Request) (spare0 : BitVec 3) (spare2 : BitVec 15) :
    decodeRequest
        (BitVec.ofNat 32
          (r.kind.toNat + r.agent.val * 2 ^ 4 + r.tag.toNat * 2 ^ 9 + r.slot.toNat * 2 ^ 13
            + r.waitLimit.toNat * 2 ^ 21 + spare0.toNat * 2 ^ 29))
        (BitVec.ofNat 32 (r.address.toNat % 2 ^ 32))
        (BitVec.ofNat 32 (r.address.toNat / 2 ^ 32 + r.length.toNat * 2 ^ 4 + spare2.toNat * 2 ^ 17))
      = r := by
  obtain ⟨kind, agent, tag, slot, wait, address, length⟩ := r
  have hk := kind.isLt
  have ha := agent.isLt
  have ht := tag.isLt
  have hs := slot.isLt
  have hw := wait.isLt
  have h0 := spare0.isLt
  have h2 := spare2.isLt
  have hd := address.isLt
  have hl := length.isLt
  simp only [decodeRequest, Request.mk.injEq]
  refine ⟨extractLsb'_ofNat_eq (by decide) (by omega), Fin.ext ?_, extractLsb'_ofNat_eq (by decide) (by omega),
    extractLsb'_ofNat_eq (by decide) (by omega), extractLsb'_ofNat_eq (by decide) (by omega), ?_,
    extractLsb'_ofNat_eq (by decide) (by omega)⟩
  · simp only [Fin.val_ofNat, BitVec.toNat_ofNat]
    omega
  · refine BitVec.eq_of_toNat_eq ?_
    rw [BitVec.toNat_append, ← Nat.shiftLeft_add_eq_or_of_lt (BitVec.isLt _), Nat.shiftLeft_eq,
      extractLsb'_ofNat_toNat _ _ _ (by decide), BitVec.toNat_ofNat]
    omega

/-! #### Answers and notices (12.1, R171) -/

theorem reasonCode_eq (why : Option Reason) : reasonCode why = (why.map Reason.code).getD 0 := by
  cases why <;> rfl

theorem AnswerOutcome.code_le (o : AnswerOutcome) : o.code ≤ 6 := by cases o <;> decide

theorem EOutcome.code_le (o : EOutcome) : o.code ≤ 3 := by cases o <;> decide

/-- The fields of word 0 of an answer whose reason is one of a lane's. -/
theorem Answer.word0_fields {a : Answer} (lane : ∀ why, a.reason = some why → why.code ≤ 17) :
    a.word0.getLsbD 0 = false ∧ a.word0.extractLsb' 1 4 = a.kind ∧ a.word0.extractLsb' 5 4 = a.tag
      ∧ (a.word0.extractLsb' 9 3).toNat = a.outcome.code
      ∧ (a.word0.extractLsb' 12 5).toNat = (a.reason.map Reason.code).getD 0
      ∧ a.word0.getLsbD 17 = a.slot.isSome ∧ a.word0.extractLsb' 18 8 = a.slot.getD 0
      ∧ a.word0.extractLsb' 26 6 = 0 := by
  have reason : reasonCode a.reason ≤ 17 := by
    rcases h : a.reason with _ | why
    · decide
    · exact lane why h
  have present : (if a.slot.isSome then 2 ^ 17 else 0) = a.slot.isSome.toNat * 2 ^ 17 := by
    cases a.slot <;> simp
  have kind := a.kind.isLt
  have tag := a.tag.isLt
  have outcome := a.outcome.code_le
  have bit := Bool.toNat_le a.slot.isSome
  have slot := (a.slot.getD 0).isLt
  have isAnswer : false.toNat = 0 := rfl
  have unused : (0 : BitVec 6).toNat = 0 := rfl
  rw [Answer.word0, present, ← reasonCode_eq]
  refine ⟨getLsbD_ofNat_eq (by decide) ?_, extractLsb'_ofNat_eq (by decide) ?_, extractLsb'_ofNat_eq (by decide) ?_,
    (extractLsb'_ofNat_toNat _ _ _ (by decide)).trans ?_, (extractLsb'_ofNat_toNat _ _ _ (by decide)).trans ?_,
    getLsbD_ofNat_eq (by decide) ?_, extractLsb'_ofNat_eq (by decide) ?_, extractLsb'_ofNat_eq (by decide) ?_⟩
  all_goals omega

theorem Answer.word1_fields (a : Answer) :
    (a.word1.extractLsb' 0 6).toNat = (a.entry.map Fin.val).getD 0 ∧ a.word1.getLsbD 6 = a.entry.isSome
      ∧ a.word1.extractLsb' 7 8 = a.laneMask.getD 0 ∧ a.word1.getLsbD 15 = a.laneMask.isSome
      ∧ a.word1.extractLsb' 16 16 = 0 := by
  have entryIn : (if a.entry.isSome then 2 ^ 6 else 0) = a.entry.isSome.toNat * 2 ^ 6 := by
    cases a.entry <;> simp
  have maskIn : (if a.laneMask.isSome then 2 ^ 15 else 0) = a.laneMask.isSome.toNat * 2 ^ 15 := by
    cases a.laneMask <;> simp
  have index : (a.entry.map Fin.val).getD 0 = (a.entry.getD 0).val := by
    cases a.entry <;> rfl
  have entry := (a.entry.getD 0).isLt
  have entryBit := Bool.toNat_le a.entry.isSome
  have mask := (a.laneMask.getD 0).isLt
  have maskBit := Bool.toNat_le a.laneMask.isSome
  have unused : (0 : BitVec 16).toNat = 0 := rfl
  rw [Answer.word1, entryIn, maskIn, index]
  refine ⟨(extractLsb'_ofNat_toNat _ _ _ (by decide)).trans ?_, getLsbD_ofNat_eq (by decide) ?_,
    extractLsb'_ofNat_eq (by decide) ?_, getLsbD_ofNat_eq (by decide) ?_, extractLsb'_ofNat_eq (by decide) ?_⟩
  all_goals omega

theorem Notice.word0_fields (n : Notice) :
    n.word0.getLsbD 0 = true ∧ (n.word0.extractLsb' 1 6).toNat = n.entry.val
      ∧ (n.word0.extractLsb' 7 6).toNat = n.slot.val ∧ n.word0.getLsbD 13 = (n.kind == .write)
      ∧ (n.word0.extractLsb' 14 2).toNat = n.outcome.code ∧ n.word0.extractLsb' 16 16 = 0 := by
  have kindBit : n.kind.code = (n.kind == .write).toNat := by cases n.kind <;> rfl
  have entry := n.entry.isLt
  have slot := n.slot.isLt
  have bit := Bool.toNat_le (n.kind == .write)
  have outcome := n.outcome.code_le
  have isNotice : true.toNat = 1 := rfl
  have unused : (0 : BitVec 16).toNat = 0 := rfl
  rw [Notice.word0, kindBit]
  refine ⟨getLsbD_ofNat_eq (by decide) ?_, (extractLsb'_ofNat_toNat _ _ _ (by decide)).trans ?_,
    (extractLsb'_ofNat_toNat _ _ _ (by decide)).trans ?_, getLsbD_ofNat_eq (by decide) ?_,
    (extractLsb'_ofNat_toNat _ _ _ (by decide)).trans ?_, extractLsb'_ofNat_eq (by decide) ?_⟩
  all_goals omega

/-- The answer channel decides what the answer bus shows (R138). -/
theorem Lane.answerBus_channel (l : Lane) :
    (l.channel = .free → l.answerBus = none)
      ∧ (∀ a, l.channel = .answer → l.answer = some a → l.answerBus = some (a.word0, a.word1))
      ∧ ∀ n, l.channel = .notice n → l.answerBus = some (n.word0, 0) := by
  refine ⟨fun free => ?_, fun a offered holds => ?_, fun n offered => ?_⟩
  · simp [Lane.answerBus, free]
  · simp [Lane.answerBus, offered, holds]
  · simp [Lane.answerBus, offered]

/-! #### Codes (12.2, 12.3) -/

theorem leaseModeOf_eq_none {b : Byte} : leaseModeOf b = none ↔ 2 < b.toNat := by
  rw [← Option.not_isSome_iff_eq_none, leaseModeOf_isSome, Nat.not_le]

theorem expiryActionOf_eq_none {b : Byte} : expiryActionOf b = none ↔ 2 < b.toNat := by
  rw [← Option.not_isSome_iff_eq_none, expiryActionOf_isSome, Nat.not_le]

/-- Settles O10: the fields of blocks, words and responses by the lemmas above, and the codes by evaluation. -/
theorem wireFieldsSpellBack : Obligations.WireFieldsSpellBack := by
  refine ⟨fun b => ⟨b.bytes_eq, parseBlock_bytes b⟩, decodeRequest_words,
    fun a lane => ⟨a.word0_fields lane, a.word1_fields⟩, Notice.word0_fields, Lane.answerBus_channel,
    fun code body => ⟨rfl, fun why => rfl⟩, rfl, rfl, rfl, bytesOf_eq_map, rfl, rfl, rfl, rfl, rfl, rfl, rfl, rfl, rfl,
    rfl, rfl, rfl, rfl, rfl, rfl, rfl, rfl, rfl, rfl, fun b out => ?_, rfl, rfl⟩
  exact ⟨roleOf_eq_none.mpr out, leaseModeOf_eq_none.mpr out, expiryActionOf_eq_none.mpr out⟩

end Sys2Proof.Machine

/-! ### The command frames of 12.3 -/

namespace Sys2Proof.Machine

/-- A frame whose code has as many operands as it carries spells the command that the port then holds (R156, case 7). -/
theorem exec_frameEnd_accepts {s : State} {code : Byte} {ops : List Byte} {c : Instr} (up : s.rstLow = false)
    (selected : s.port.selected = true) (uncopied : s.port.copied = false) (idle : s.port.held = none)
    (ready : s.service = .ready) (count : operandCount code = some ops.length)
    (spelled : parseCommand code ops = some c) :
    exec (.frameEnd ((code :: ops).flatMap byteBits) []) s = .next { s with port := s.port.accept c } := by
  have other : code ≠ Config.readResponseCode := by
    rintro rfl
    rw [operandCount_readResponseCode] at count
    cases count
  have served : ¬ (s.service = .loading ∧ code ≠ Config.statusCode ∧ code ≠ Config.loadAbortCode) := by
    rintro ⟨loading, -⟩
    rw [ready] at loading
    cases loading
  refine (exec_frameEnd_judge up selected uncopied (by decide) (by simp) (by simpa using other)).trans ?_
  rw [List.length_nil, Port.judge_accepted idle count served spelled]

section
variable (slot : Byte)

theorem parseCommand_renew (count : BitVec 16) :
    parseCommand 0x27 [slot, count.extractLsb' 8 8, count.extractLsb' 0 8] = some (.renew slot count) := by
  have field := ofNat_natOf_bytesOf (n := 2) count rfl
  rw [bytesOf_two] at field
  exact congrArg (fun x => some (Instr.renew slot x)) field

theorem parseCommand_timebase (divider : BitVec 16) (flags run : Byte) :
    parseCommand 0x41 [divider.extractLsb' 8 8, divider.extractLsb' 0 8, flags, run]
      = some (.timebase divider flags run) := by
  have field := ofNat_natOf_bytesOf (n := 2) divider rfl
  rw [bytesOf_two] at field
  exact congrArg (fun x => some (Instr.timebase x flags run)) field

theorem parseCommand_mapWrite (index : Byte) (word : Word32) :
    parseCommand 0x30
        [slot, index, word.extractLsb' 24 8, word.extractLsb' 16 8, word.extractLsb' 8 8, word.extractLsb' 0 8]
      = some (.mapWrite slot index word) := by
  have field := ofNat_natOf_bytesOf (n := 4) word rfl
  rw [bytesOf_four] at field
  exact congrArg (fun x => some (Instr.mapWrite slot index x)) field

theorem parseCommand_ack (causes : Byte) (slots : BitVec 64) :
    parseCommand 0x51
        [causes, slots.extractLsb' 56 8, slots.extractLsb' 48 8, slots.extractLsb' 40 8, slots.extractLsb' 32 8,
          slots.extractLsb' 24 8, slots.extractLsb' 16 8, slots.extractLsb' 8 8, slots.extractLsb' 0 8]
      = some (.ack causes slots) := by
  have field := ofNat_natOf_bytesOf (n := 8) slots rfl
  rw [bytesOf_eight] at field
  exact congrArg (fun x => some (Instr.ack causes x)) field

variable (x : Byte) (b : FieldBlock)

theorem blockOperands_drop : ([slot, x] ++ b.bytes).drop 2 = b.bytes := List.drop_left' rfl

theorem parseCommand_windowCreate : parseCommand 0x20 ([slot, x] ++ b.bytes) = some (.windowCreate slot x b) := by
  have spelled : parseCommand 0x20 ([slot, x] ++ b.bytes)
      = some (.windowCreate slot x (parseBlock (([slot, x] ++ b.bytes).drop 2))) := rfl
  rw [spelled, blockOperands_drop, parseBlock_bytes]

theorem parseCommand_windowModify : parseCommand 0x21 ([slot, x] ++ b.bytes) = some (.windowModify slot x b) := by
  have spelled : parseCommand 0x21 ([slot, x] ++ b.bytes)
      = some (.windowModify slot x (parseBlock (([slot, x] ++ b.bytes).drop 2))) := rfl
  rw [spelled, blockOperands_drop, parseBlock_bytes]

/-- The operands of WINDOW CREATE and WINDOW MODIFY are two bytes and a field block. -/
theorem blockOperands_length : ([slot, x] ++ b.bytes).length = 30 := by
  rw [FieldBlock.bytes_eq]
  rfl

end

/-- The operand counts of 12.3, code by code. -/
theorem operandCount_eq : ∀ code : Byte,
    operandCount code
      = (if code ∈ ([0x01, 0x40, 0x52, 0x53, 0x54, 0x58, 0x59] : List Byte) then some 0
        else if code ∈ ([0x11, 0x22, 0x23, 0x24, 0x25, 0x26, 0x32, 0x38, 0x42, 0x49, 0x50] : List Byte) then some 1
        else if code ∈ ([0x28, 0x43] : List Byte) then some 2
        else if code ∈ ([0x27, 0x31] : List Byte) then some 3
        else if code = 0x41 then some 4
        else if code ∈ ([0x10, 0x48] : List Byte) then some 5
        else if code = 0x30 then some 6
        else if code = 0x51 then some 9
        else if code ∈ ([0x20, 0x21] : List Byte) then some 30
        else none) := by
  decide

/-- Settles O12: each frame has the operands of its code, and the fields of several bytes are read back from them. -/
theorem commandFramesSpellTheirCommands : Obligations.CommandFramesSpellTheirCommands := by
  refine ⟨?_, operandCount_eq⟩
  intro s up selected uncopied idle ready spells
  have frame : ∀ {code ops c}, operandCount code = some ops.length → parseCommand code ops = some c →
      spells (code :: ops) c := exec_frameEnd_accepts up selected uncopied idle ready
  refine ⟨⟨?_, ?_, ?_, ?_, ?_, ?_, ?_⟩, fun x => ⟨?_, ?_, ?_, ?_, ?_, ?_, ?_, ?_, ?_, ?_, ?_⟩, fun slot force => ?_,
    fun slot index selector => ?_, fun enables qualification => ?_, fun agent enabled cls lane quota => ?_,
    fun gate bind slot polarity mode => ?_, fun slot count => frame rfl (parseCommand_renew slot count),
    fun divider flags run => frame rfl (parseCommand_timebase divider flags run),
    fun slot index word => frame rfl (parseCommand_mapWrite slot index word),
    fun causes slots => frame rfl (parseCommand_ack causes slots),
    fun slot x b => ⟨frame (congrArg some (blockOperands_length slot x b).symm) (parseCommand_windowCreate slot x b),
      frame (congrArg some (blockOperands_length slot x b).symm) (parseCommand_windowModify slot x b)⟩⟩
  all_goals exact frame rfl rfl

end Sys2Proof.Machine

/-! ### The rise of RST_N, RELOAD and LOAD ABORT (R162, R163, R169, R170) -/

namespace Sys2Proof.Machine

section
variable {s : State}

theorem exec_resetRelease_rises (low : s.rstLow = true) (loaden : Bool) (imga : BitVec 3) :
    exec (.resetRelease loaden imga) s = .next (s.released loaden imga) :=
  if_pos low

theorem countP_finRange_eq_self {n : Nat} {p : Fin n → Bool} :
    (List.finRange n).countP p = n ↔ ∀ i, p i = true := by
  simpa using List.countP_eq_length (l := List.finRange n) (p := p)

theorem State.freeSlots_eq_all : s.freeSlots = 64 ↔ ∀ k, (s.window k).state = .free := by
  simp only [State.freeSlots, countP_finRange_eq_self, beq_iff_eq]

theorem State.freeEntries_eq_all : s.freeEntries = 48 ↔ ∀ i, (s.entry i).state = .free := by
  simp only [State.freeEntries, countP_finRange_eq_self, beq_iff_eq]

theorem exec_reload_done (due : s.commandDue .reload = true) (slots : ∀ k, (s.window k).state = .free)
    (entries : ∀ i, (s.entry i).state = .free) :
    exec .reload s = .next (s.portGranted.startLoad.answered 0x58 none []) :=
  takeCommand_done (body := reloadReply) due rfl
    (if_pos ⟨State.freeSlots_eq_all.mpr slots, State.freeEntries_eq_all.mpr entries⟩)

theorem exec_reload_notEmpty (due : s.commandDue .reload = true)
    (taken : (∃ k, (s.window k).state ≠ .free) ∨ ∃ i, (s.entry i).state ≠ .free) :
    exec .reload s = .next (s.portGranted.answered 0x58 (some .notEmpty) []) := by
  refine takeCommand_refused (body := reloadReply) due rfl (if_neg fun ⟨slots, entries⟩ => ?_)
  rcases taken with ⟨k, taken⟩ | ⟨i, taken⟩
  · exact taken (State.freeSlots_eq_all.mp slots k)
  · exact taken (State.freeEntries_eq_all.mp entries i)

/-- LOAD ABORT goes direct: the arbiter's pointer is kept (R158, R170). -/
theorem exec_loadAbort_taken (due : s.commandDue .loadAbort = true) :
    exec .loadAbort s = .next ((loadAbortReply s).1.complete 0x59 (loadAbortReply s).2) := by
  have taken := takeCommand_due (code := Config.loadAbortCode) (body := loadAbortReply) due
  rwa [State.commandTaken_direct rfl] at taken

theorem loadAbortReply_loading (loading : s.service = .loading) :
    loadAbortReply s = ({ s with loader := { s.loader with abortAsked := true } }, .done []) :=
  if_pos loading

theorem loadAbortReply_ready (ready : s.service = .ready) : loadAbortReply s = s.refuse .state :=
  if_neg (by rw [ready]; decide)

end

/-- Settles O6: the straps are sampled at the rise, and LOADEN decides whether a load starts. -/
theorem resetReleaseSamplesStraps : Obligations.ResetReleaseSamplesStraps :=
  fun _ imga low => ⟨exec_resetRelease_rises low false imga, exec_resetRelease_rises low true imga⟩

/-- Settles O34: the counts of FREE records decide RELOAD, and the service state decides LOAD ABORT. -/
theorem reloadAndLoadAbort : Obligations.ReloadAndLoadAbort := by
  refine fun s => ⟨fun due => ⟨exec_reload_done due, exec_reload_notEmpty due⟩, fun due => ⟨fun loading => ?_,
    fun ready => ?_⟩⟩
  · rw [exec_loadAbort_taken due, loadAbortReply_loading loading]
    rfl
  · rw [exec_loadAbort_taken due, loadAbortReply_ready ready]
    rfl

end Sys2Proof.Machine

/-! ### What the loader does on the bus (R164, R165, R170) -/

namespace Sys2Proof.Machine

/-! #### Lines and what is read of TWD while TWC is high (R164) -/

/-- The levels that the part leaves on TWD at the times when it leaves TWC high. -/
def readWhileHigh (lines : List (Bool × Bool)) : List Bool := (lines.filter Prod.fst).map Prod.snd

@[simp] theorem readWhileHigh_append (a b : List (Bool × Bool)) :
    readWhileHigh (a ++ b) = readWhileHigh a ++ readWhileHigh b := by
  simp [readWhileHigh]

@[simp] theorem readWhileHigh_busClock (twd : Bool) : readWhileHigh (busClock twd) = [twd] := rfl

/-- One bit is read in each clock. -/
@[simp] theorem readWhileHigh_clocks (bits : List Bool) : readWhileHigh (bits.map busClock).flatten = bits := by
  induction bits with
  | nil => rfl
  | cons bit bits ih => simp [ih]

theorem readWhileHigh_send (b : Byte) : readWhileHigh (BusEvent.send b).lines = byteBits b ++ [true] := by
  rw [BusEvent.lines, readWhileHigh_append, readWhileHigh_clocks, readWhileHigh_busClock]

/-- A byte received: TWD is released for eight clocks, and the ninth carries the acknowledgement. -/
theorem readWhileHigh_receive_one (nak : Bool) :
    readWhileHigh (BusEvent.receive 1 nak).lines = List.replicate 8 true ++ [nak] := by
  cases nak <;> rfl

/-- Bytes are received one after the other, and only the last may be answered with a NAK. -/
theorem BusEvent.receive_succ_lines (n : Nat) (nak : Bool) :
    (BusEvent.receive (n + 1) nak).lines = (BusEvent.receive n false).lines ++ (BusEvent.receive 1 nak).lines := by
  have acknowledged : ∀ i ∈ List.range n, (nak && i + 1 == n + 1) = (false && i + 1 == n) := fun i mem => by
    have := List.mem_range.mp mem
    simp
    omega
  simp only [BusEvent.lines, List.range_succ, List.map_append, List.flatten_append]
  congr 1
  · exact congrArg List.flatten (List.map_congr_left fun i mem => by rw [acknowledged i mem])
  · simp

/-- The last event on the bus decides how the lines are left. -/
theorem getLastD_lines_concat {e : BusEvent} {early : List (Bool × Bool)} {last : Bool × Bool}
    (ends : e.lines = early ++ [last]) (bus : List BusEvent) (otherwise : Bool × Bool) :
    ((bus ++ [e]).map BusEvent.lines).flatten.getLastD otherwise = last := by
  simp [ends, ← List.append_assoc]

/-- While RST_N is high, the last event on the bus decides how the part leaves its lines. -/
theorem State.twoWire_concat {t : State} {e : BusEvent} {early : List (Bool × Bool)} {last : Bool × Bool}
    {before : List BusEvent} (up : t.rstLow = false) (bus : t.loader.bus = before ++ [e])
    (ends : e.lines = early ++ [last]) : t.twoWire = last := by
  rw [State.twoWire, up, bus]
  exact getLastD_lines_concat ends before _

/-- With no event on the bus since a start, TWC is left low and TWD released. -/
theorem State.twoWire_started {t : State} (up : t.rstLow = false) (bus : t.loader.bus = [])
    (started : t.loader.started = true) : t.twoWire = (false, true) := by
  simp [State.twoWire, up, bus, started]

theorem State.twoWire_send {t : State} {b : Byte} {before : List BusEvent} (up : t.rstLow = false)
    (bus : t.loader.bus = before ++ [.send b]) : t.twoWire = (false, true) :=
  State.twoWire_concat (early := ((byteBits b).map busClock).flatten ++ [(false, true), (true, true)]) up bus
    (by simp [BusEvent.lines, busClock])

theorem State.twoWire_stop {t : State} {before : List BusEvent} (up : t.rstLow = false)
    (bus : t.loader.bus = before ++ [.stop]) : t.twoWire = (true, true) :=
  State.twoWire_concat (early := [(false, false), (true, false)]) up bus rfl

/-! #### The bytes of an attempt (R164) -/

theorem addressByte_write (imga : BitVec 3) : addressByte imga false = BitVec.ofNat 8 (2 * (0x58 + imga.toNat)) := by
  rw [addressByte, Nat.mul_comm]
  rfl

theorem addressByte_read (imga : BitVec 3) : addressByte imga true = BitVec.ofNat 8 (2 * (0x58 + imga.toNat) + 1) := by
  rw [addressByte, Nat.mul_comm]
  rfl

theorem startAddress_eq (imga : BitVec 3) :
    startAddress imga = [.start, .send (BitVec.ofNat 8 (2 * (0x58 + imga.toNat)))] := by
  rw [startAddress, addressByte_write]

theorem offsetAndReadAddress_eq (imga : BitVec 3) :
    offsetAndReadAddress imga
      = [.send 0, .send 0, .repeatedStart, .send (BitVec.ofNat 8 (2 * (0x58 + imga.toNat) + 1))] := by
  rw [offsetAndReadAddress, addressByte_read]

section
variable {s t : State}

theorem exec_busCheck_begins {n : Nat} (up : s.rstLow = false) (checking : s.loader.phase = .busCheck)
    (goesOn : s.loader.abortAsked = false) (few : n ≤ 9) :
    exec (.busCheck n) s = .next { s with loader := s.loader.beginAttempt s.imga n } := by
  refine (takeEvent_can up (by rw [checking, goesOn]; rfl)).trans ?_
  rw [if_pos (show n ≤ Config.maxFreeingPulses from few)]

theorem exec_busCheck_busy {n : Nat} (up : s.rstLow = false) (checking : s.loader.phase = .busCheck)
    (goesOn : s.loader.abortAsked = false) (many : 9 < n) :
    exec (.busCheck n) s = .next { s with loader := s.loader.failReleased (.plain .busBusy) [.pulses 9] } := by
  refine (takeEvent_can up (by rw [checking, goesOn]; rfl)).trans ?_
  rw [if_neg (show ¬ n ≤ Config.maxFreeingPulses from Nat.not_le.mpr many)]
  rfl

section
variable (up : s.rstLow = false) (addressing : s.loader.phase = .addressing)
include up addressing

theorem exec_addressNak_retries (few : s.loader.result.attempts < 4) :
    exec .addressNak s = .next (s.nakTaken (s.loader.endAttempt s.sentToAddressNak)) := by
  refine (takeEvent_can up (by rw [addressing]; rfl)).trans ?_
  rw [if_neg (show ¬ Config.maxAttempts ≤ _ from Nat.not_le.mpr few)]

theorem exec_addressNak_fails (fourth : 4 ≤ s.loader.result.attempts) :
    exec .addressNak s = .next (s.nakTaken (s.loader.fail (.plain .noDevice) s.sentToAddressNak)) := by
  refine (takeEvent_can up (by rw [addressing]; rfl)).trans ?_
  rw [if_pos (show Config.maxAttempts ≤ _ from fourth)]

theorem exec_offsetNak_fails :
    exec .offsetNak s = .next (s.nakTaken (s.loader.fail (.plain .noDevice) s.sentToOffsetNak)) :=
  takeEvent_can up (by rw [addressing]; rfl)

/-- A NAK of an address byte that ends the attempt alone has its stop made; the one that fails the load leaves TWC low
until its stop (R164, R165). -/
theorem exec_addressNak_twoWire (started : s.loader.started = true) (h : exec .addressNak s = .next t) :
    t.twoWire = (decide (s.loader.result.attempts < 4), true) := by
  by_cases few : s.loader.result.attempts < 4
  · rw [exec_addressNak_retries up addressing few] at h
    cases h
    rw [decide_eq_true few]
    exact State.twoWire_stop up rfl
  · rw [exec_addressNak_fails up addressing (Nat.le_of_not_lt few)] at h
    cases h
    rw [decide_eq_false few]
    rcases s.sentToAddressNak_cases with sent | sent
    · exact State.twoWire_started up sent started
    · exact State.twoWire_send (before := [.send 0, .send 0, .repeatedStart]) up sent

theorem exec_offsetNak_twoWire (h : exec .offsetNak s = .next t) : t.twoWire = (false, true) := by
  rw [exec_offsetNak_fails up addressing] at h
  cases h
  rcases s.sentToOffsetNak_cases with sent | sent
  · exact State.twoWire_send (before := []) up sent
  · exact State.twoWire_send (before := [.send 0]) up sent

end

/-! #### A clock held too long (R165, R170) -/

/-- A load that runs and is not to fail: in a bus check, in the bytes of an attempt, or in the stop at the end. -/
def Loader.Runs (l : Loader) : Prop :=
  l.phase = .busCheck ∨ l.phase = .addressing ∨ l.phase = .settings ∨ (∃ i, l.phase = .record i) ∨ l.phase = .ending

theorem Loader.Runs.onBus {l : Loader} (runs : l.Runs) : l.onBus = true := by
  unfold Loader.onBus
  rcases runs with phase | phase | phase | ⟨i, phase⟩ | phase <;> rw [phase]

theorem Loader.Runs.held_eq {l : Loader} (runs : l.Runs) :
    l.held
      = if l.abortAsked then l.failReleased (.plain .aborted) l.stopDue else l.failReleased (.plain .busHeld) [] := by
  unfold Loader.held
  split
  · rename_i failing
    simp [Loader.Runs, failing] at runs
  · rfl

theorem exec_busHeld_done (up : s.rstLow = false) (on : s.loader.onBus = true) :
    exec .busHeld s = .next { s with loader := s.loader.held } :=
  takeEvent_can up on

theorem exec_busHeld_fails (up : s.rstLow = false) (runs : s.loader.Runs) (goesOn : s.loader.abortAsked = false) :
    exec .busHeld s = .next { s with loader := s.loader.failReleased (.plain .busHeld) [] } := by
  rw [exec_busHeld_done up runs.onBus, runs.held_eq, goesOn]
  rfl

theorem exec_busHeld_aborts (up : s.rstLow = false) (runs : s.loader.Runs) (asked : s.loader.abortAsked = true) :
    exec .busHeld s = .next { s with loader := s.loader.failReleased (.plain .aborted) s.loader.stopDue } := by
  rw [exec_busHeld_done up runs.onBus, runs.held_eq, asked]
  rfl

/-- In the stop of a load that is to fail already, the reason found first is kept (assumption 27). -/
theorem exec_busHeld_failing {f : LoadFault} (up : s.rstLow = false) (failing : s.loader.phase = .failing f)
    (started : s.loader.started = true) : exec .busHeld s = .next { s with loader := s.loader.failReleased f [] } := by
  rw [exec_busHeld_done up (by rw [Loader.onBus, failing]; exact started), Loader.held, failing]

end

/-- Settles O49: what each bus event makes of the loader, and how it leaves the lines, whichever byte drew a NAK. -/
theorem loaderFollowsTheBus : Obligations.LoaderFollowsTheBus := by
  refine ⟨fun s up => ?_, readWhileHigh_send, readWhileHigh_receive_one, fun n nak => ?_, rfl, rfl, rfl, rfl, rfl⟩
  · intro into fault address later nak toAddress toOffset
    have sentToAddress : s.sentToAddressNak = toAddress := by
      rw [State.sentToAddressNak, offsetAndReadAddress_eq]
    refine ⟨fun n checking goesOn => ⟨fun few => ?_, exec_busCheck_busy up checking goesOn⟩,
      fun addressing => ⟨fun few => ?_, fun fourth => ?_, exec_offsetNak_fails up addressing,
        fun started => ⟨fun t => exec_addressNak_twoWire up addressing started,
          fun t => exec_offsetNak_twoWire up addressing⟩⟩,
      fun runs => ⟨exec_busHeld_fails up runs, exec_busHeld_aborts up runs⟩,
      fun f => exec_busHeld_failing up⟩
    · rw [exec_busCheck_begins up checking goesOn few, Loader.beginAttempt, startAddress_eq]
    · rw [exec_addressNak_retries up addressing few, sentToAddress]
      rfl
    · rw [exec_addressNak_fails up addressing fourth, sentToAddress]
      rfl
  · exact (congrArg readWhileHigh (BusEvent.receive_succ_lines n nak)).trans (readWhileHigh_append _ _)

end Sys2Proof.Machine

/-! ### Fields of the image, and the header and settings record (R164, R166) -/

namespace Sys2Proof.Machine

/-! #### Fields of several bytes, most significant byte first -/

section
variable {bytes : List Byte} {off n : Nat}

theorem natOf_concat (bytes : List Byte) (b : Byte) : natOf (bytes ++ [b]) = natOf bytes * 256 + b.toNat := by
  simp [natOf]

/-- A field is its first bytes and then its last one. -/
theorem fieldAt_succ (within : off + n < bytes.length) :
    fieldAt bytes off (n + 1) = fieldAt bytes off n * 256 + (byteAt bytes (off + n)).toNat := by
  have inRest : n < (bytes.drop off).length := by rw [List.length_drop]; omega
  rw [fieldAt, List.take_succ_eq_append_getElem inRest, natOf_concat, List.getElem_drop, byteAt,
    List.getD_eq_getElem bytes 0 within]
  rfl

/-- Past the end of the bytes both readings are 0. -/
theorem fieldAt_one (bytes : List Byte) (off : Nat) : fieldAt bytes off 1 = (byteAt bytes off).toNat := by
  by_cases within : off < bytes.length
  · rw [fieldAt_succ within]
    simp [fieldAt, natOf]
  · have past := Nat.le_of_not_lt within
    simp [fieldAt, natOf, byteAt, List.drop_eq_nil_of_le past, List.getElem?_eq_none past]

theorem fieldAt_two (within : off + 1 < bytes.length) :
    fieldAt bytes off 2 = (byteAt bytes off).toNat * 256 + (byteAt bytes (off + 1)).toNat := by
  rw [fieldAt_succ within, fieldAt_one]

theorem fieldAt_three (within : off + 2 < bytes.length) :
    fieldAt bytes off 3
      = (byteAt bytes off).toNat * 65536 + (byteAt bytes (off + 1)).toNat * 256 + (byteAt bytes (off + 2)).toNat := by
  rw [fieldAt_succ within, fieldAt_two (by omega)]
  omega

end

/-! #### A completed part (R166, R170) -/

section
variable {l : Loader} {p : LoadPhase} {before : List BusEvent} {bytes : List Byte}

theorem Loader.proceed_goesOn (goesOn : l.abortAsked = false) :
    l.proceed p before bytes = { l with phase := p, bus := before ++ [.receive bytes.length (p == .ending)] } :=
  if_neg (by rw [goesOn]; exact Bool.false_ne_true)

theorem Loader.proceed_aborted (asked : l.abortAsked = true) :
    l.proceed p before bytes
      = { l with
          phase := .failing { reason := .aborted, index := none, why := none }
          bus := before ++ [.receive bytes.length true] } :=
  if_pos asked

end

/-! #### The header (R166) -/

/-- The marker, the version, the counts and the reserved byte of a header pass their checks. -/
def HeaderMarked (bytes : List Byte) : Prop :=
  byteAt bytes 0 = 0x44 ∧ byteAt bytes 1 = 0x46 ∧ byteAt bytes 2 = 1 ∧ (byteAt bytes 3).toNat ≤ 32
    ∧ (byteAt bytes 4).toNat ≤ 64 ∧ byteAt bytes 9 = 0

/-- The length field of a header is that of an image with its counts. -/
def HeaderLong (bytes : List Byte) : Prop :=
  (byteAt bytes 5).toNat * 256 + (byteAt bytes 6).toNat
    = 32 + 8 * (byteAt bytes 3).toNat + 64 * (byteAt bytes 4).toNat

section
variable {bytes : List Byte}

theorem headerMarked_iff (full : bytes.length = 16) :
    HeaderMarked bytes
      ↔ ¬ (fieldAt bytes 0 2 ≠ Config.imageMarker ∨ fieldAt bytes 2 1 ≠ Config.imageVersion ∨ 32 < fieldAt bytes 3 1
          ∨ 64 < fieldAt bytes 4 1 ∨ fieldAt bytes 9 1 ≠ 0) := by
  have low := (byteAt bytes 1).isLt
  simp only [HeaderMarked, fieldAt_two (bytes := bytes) (off := 0) (by omega), fieldAt_one, Config.imageMarker,
    Config.imageVersion, ← BitVec.toNat_inj, BitVec.reduceToNat, Nat.zero_add]
  omega

theorem headerLong_iff (full : bytes.length = 16) :
    HeaderLong bytes ↔ ¬ fieldAt bytes 5 2 ≠ 32 + 8 * fieldAt bytes 3 1 + 64 * fieldAt bytes 4 1 := by
  rw [fieldAt_two (by omega), fieldAt_one, fieldAt_one, not_not]
  rfl

theorem headerCheck_badHeader (full : bytes.length = 16) (unmarked : ¬ HeaderMarked bytes) :
    headerCheck bytes = some .badHeader :=
  if_pos (not_not.mp (mt (headerMarked_iff full).mpr unmarked))

theorem headerCheck_badLength (full : bytes.length = 16) (marked : HeaderMarked bytes) (short : ¬ HeaderLong bytes) :
    headerCheck bytes = some .badLength := by
  rw [headerCheck, if_neg ((headerMarked_iff full).mp marked),
    if_pos (not_not.mp (mt (headerLong_iff full).mpr short))]

theorem headerCheck_passes (full : bytes.length = 16) (marked : HeaderMarked bytes) (long : HeaderLong bytes) :
    headerCheck bytes = none := by
  rw [headerCheck, if_neg ((headerMarked_iff full).mp marked), if_neg ((headerLong_iff full).mp long)]

/-- The loader with the counts and the sum field of a header that passes its checks. -/
def Loader.counted (l : Loader) (bytes : List Byte) : Loader :=
  { l with
    agentCount := (byteAt bytes 3).toNat
    windowCount := (byteAt bytes 4).toNat
    sumField := BitVec.ofNat 16 ((byteAt bytes 7).toNat * 256 + (byteAt bytes 8).toNat)
    runningSum := 0 }

theorem Loader.header_fails {why : Reason} (check : headerCheck bytes = some why) (l : Loader)
    (before : List BusEvent) :
    l.header before bytes = l.fail (.plain why) (before ++ [.receive bytes.length true]) := by
  rw [Loader.header, check]
  rfl

theorem Loader.header_passes (full : bytes.length = 16) (check : headerCheck bytes = none) (l : Loader)
    (before : List BusEvent) : l.header before bytes = (l.counted bytes).proceed .settings before bytes := by
  rw [Loader.header, check, Loader.counted, ← fieldAt_one, ← fieldAt_one, ← fieldAt_two (off := 7) (by omega)]

theorem exec_imageHeader_done {s : State} (up : s.rstLow = false) (full : bytes.length = 16)
    (addressing : s.loader.phase = .addressing) :
    exec (.imageHeader bytes) s
      = .next { s with loader := s.loader.header (offsetAndReadAddress s.imga) bytes } :=
  takeEvent_can up (by simp [Instr.wf, Instr.headerBytes, full, addressing])

/-! #### The settings record (R166, R167) -/

/-- The fields of a settings record pass their checks. -/
def SettingsGood (bytes : List Byte) : Prop :=
  let divider := (byteAt bytes 0).toNat * 65536 + (byteAt bytes 1).toNat * 256 + (byteAt bytes 2).toNat
  1 ≤ divider ∧ divider ≤ 65536 ∧ (byteAt bytes 3).toNat ≤ 1 ∧ 1 ≤ (byteAt bytes 4).toNat

/-- The settings that a record spells. -/
def settingsOf (bytes : List Byte) : HeldSettings where
  divider := (byteAt bytes 0).toNat * 65536 + (byteAt bytes 1).toNat * 256 + (byteAt bytes 2).toNat
  runAtEnd := byteAt bytes 3 == 1
  drainLimit := (byteAt bytes 4).toNat
  enables := byteAt bytes 5

theorem settingsGood_iff (full : bytes.length = 16) :
    SettingsGood bytes
      ↔ 1 ≤ fieldAt bytes 0 3 ∧ fieldAt bytes 0 3 ≤ 65536 ∧ fieldAt bytes 3 1 ≤ 1 ∧ 1 ≤ fieldAt bytes 4 1 := by
  rw [fieldAt_three (by omega), fieldAt_one, fieldAt_one]
  rfl

theorem heldSettingsOf_good (full : bytes.length = 16) (good : SettingsGood bytes) :
    heldSettingsOf bytes = some (settingsOf bytes) := by
  rw [heldSettingsOf, if_pos ((settingsGood_iff full).mp good), fieldAt_three (by omega), fieldAt_one]
  rfl

theorem heldSettingsOf_bad (full : bytes.length = 16) (bad : ¬ SettingsGood bytes) : heldSettingsOf bytes = none :=
  if_neg (mt (settingsGood_iff full).mpr bad)

theorem Loader.settingsRecord_fails (full : bytes.length = 16) (bad : ¬ SettingsGood bytes) (l : Loader) :
    l.settingsRecord bytes = l.fail (.record 0 .badField) [.receive bytes.length true] := by
  rw [Loader.settingsRecord, heldSettingsOf_bad full bad]
  rfl

/-- The loader with a settings record held and its bytes summed. -/
def Loader.holding (l : Loader) (bytes : List Byte) : Loader :=
  { l.addSum bytes with settings := some (settingsOf bytes) }

theorem Loader.settingsRecord_passes (full : bytes.length = 16) (good : SettingsGood bytes) (l : Loader) :
    l.settingsRecord bytes = (l.holding bytes).proceed (l.after 0) [] bytes := by
  rw [Loader.settingsRecord, heldSettingsOf_good full good]
  rfl

theorem Loader.after_more {l : Loader} {i : Nat} (more : i < l.agentCount + l.windowCount) :
    l.after i = .record (i + 1) :=
  if_pos more

theorem Loader.after_last {l : Loader} {i : Nat} (last : ¬ i < l.agentCount + l.windowCount) : l.after i = .ending :=
  if_neg last

theorem exec_settingsRecord_done {s : State} (up : s.rstLow = false) (full : bytes.length = 16)
    (settings : s.loader.phase = .settings) :
    exec (.settingsRecord bytes) s = .next { s with loader := s.loader.settingsRecord bytes } :=
  takeEvent_can up (by simp [Instr.wf, Instr.headerBytes, full, settings])

end

/-- Settles O50: the first check that fails is the reason, and a part that passes goes on unless an abort was asked. -/
theorem headerAndSettingsRecordAreChecked : Obligations.HeaderAndSettingsRecordAreChecked := by
  intro s bytes up full into before aborted a w marked long sum divider good counted kept
  refine ⟨fun addressing => ?_, fun settings => ?_⟩
  · intro failed
    have taken := exec_imageHeader_done up full addressing
    rw [offsetAndReadAddress_eq] at taken
    have fails {why : Reason} (check : headerCheck bytes = some why) :
        exec (.imageHeader bytes) s = into (failed s.loader { reason := why, index := none, why := none }) := by
      rw [taken, Loader.header_fails check, full]
      rfl
    refine ⟨fun bad => fails (headerCheck_badHeader full bad),
      fun ok short => fails (headerCheck_badLength full ok short), fun ok fits goesOn => ?_, fun ok fits asked => ?_⟩
    · rw [taken, Loader.header_passes full (headerCheck_passes full ok fits),
        Loader.proceed_goesOn (l := s.loader.counted bytes) goesOn, full]
      rfl
    · rw [taken, Loader.header_passes full (headerCheck_passes full ok fits),
        Loader.proceed_aborted (l := s.loader.counted bytes) asked, full]
      rfl
  · rw [exec_settingsRecord_done up full settings]
    refine ⟨fun bad => ?_, fun ok goesOn => ?_, fun ok asked => ?_⟩
    · rw [Loader.settingsRecord_fails full bad, full]
      rfl
    · rw [Loader.settingsRecord_passes full ok, Loader.proceed_goesOn (l := s.loader.holding bytes) goesOn, full]
      by_cases more : 0 < s.loader.agentCount + s.loader.windowCount
      · rw [Loader.after_more more, if_pos more]
        rfl
      · rw [Loader.after_last more, if_neg more]
        rfl
    · rw [Loader.settingsRecord_passes full ok, Loader.proceed_aborted (l := s.loader.holding bytes) asked, full]
      rfl

end Sys2Proof.Machine

/-! ### The agent and window records of an image (R166, R167, 12.4) -/

namespace Sys2Proof.Machine

/-! #### The map of a window record (12.4) -/

/-- A bit of a field is a bit of one of its bytes, counted from the last. -/
theorem fieldAt_testBit {bytes : List Byte} {off n j : Nat} (within : off + n ≤ bytes.length) (lt : j < 8 * n) :
    (fieldAt bytes off n).testBit j = (byteAt bytes (off + (n - 1 - j / 8))).getLsbD (j % 8) := by
  induction n generalizing j with
  | zero => omega
  | succ n ih =>
    have split := Nat.testBit_two_pow_mul_add (fieldAt bytes off n) (byteAt bytes (off + n)).isLt j
    rw [fieldAt_succ (by omega), Nat.mul_comm, show 256 = 2 ^ 8 from rfl, split]
    by_cases last : j < 8
    · rw [if_pos last, BitVec.testBit_toNat, Nat.mod_eq_of_lt last, Nat.div_eq_of_lt last]
      rfl
    · have place : n - 1 - (j - 8) / 8 = n + 1 - 1 - j / 8 := by omega
      have bit : (j - 8) % 8 = j % 8 := by omega
      rw [if_neg last, ih (by omega) (by omega), place, bit]

theorem fieldAt_drop (bytes : List Byte) (skip off n : Nat) :
    fieldAt (bytes.drop skip) off n = fieldAt bytes (skip + off) n := by
  rw [fieldAt, List.drop_drop, fieldAt]

/-- Map words written one after the other: each bit is that of its word. -/
theorem foldl_setMapWord_getLsbD (word : Nat → Word32) (m : BitVec 256) (n : Nat) {i : Nat} (lt : i < 256) :
    ((List.range n).foldl (fun m w => setMapWord m w (word w)) m).getLsbD i
      = if i / 32 < n then (word (i / 32)).getLsbD (i % 32) else m.getLsbD i := by
  induction n with
  | zero => rfl
  | succ n ih =>
    rw [List.range_succ, List.foldl_append, List.foldl_cons, List.foldl_nil, setMapWord_getLsbD _ _ lt, ih]
    by_cases here : i / 32 = n
    · rw [if_pos here, if_pos (by omega), here]
    · rw [if_neg here]
      exact if_congr (by omega) rfl rfl

/-- Bit i of the map is in word i / 32, whose bytes come most significant first. -/
theorem mapOfBytes_drop_getLsbD {bytes : List Byte} {skip i : Nat} (within : skip + 32 ≤ bytes.length)
    (lt : i < 256) :
    (mapOfBytes (bytes.drop skip)).getLsbD i
      = (byteAt bytes (skip + 4 * (i / 32) + (3 - i % 32 / 8))).getLsbD (i % 8) := by
  have place : i % 32 % 8 = i % 8 := Nat.mod_mod_of_dvd i (by decide)
  rw [mapOfBytes, foldl_setMapWord_getLsbD _ _ _ lt, if_pos (by omega), BitVec.getLsbD_ofNat,
    decide_eq_true (Nat.mod_lt i (by decide)), Bool.true_and, fieldAt_drop, fieldAt_testBit (by omega) (by omega), place]

/-! #### A record that fails, and one that passes (R166, R170) -/

section
variable {s : State} {bytes : List Byte} {n : Nat}

/-- A load that fails at record `n` with the reason that the record drew. -/
def Loader.failedAt (l : Loader) (n : Nat) (why : Reason) (bytes : List Byte) : Loader :=
  l.fail (.record n why) [.receive bytes.length true]

/-- The loader after record `n` passed its checks: on to what comes next, or to its end where an abort was asked. -/
def Loader.wentOn (l : Loader) (n : Nat) (bytes : List Byte) : Loader :=
  (l.addSum bytes).proceed (l.after n) [] bytes

theorem Loader.after_eq_ending (l : Loader) (n : Nat) :
    (l.after n == .ending) = decide (¬ n < l.agentCount + l.windowCount) := by
  by_cases more : n < l.agentCount + l.windowCount
  · rw [Loader.after_more more, decide_eq_false (not_not.mpr more)]
    rfl
  · rw [Loader.after_last more, decide_eq_true more]
    rfl

theorem Loader.wentOn_eq (l : Loader) (n : Nat) (bytes : List Byte) :
    l.wentOn n bytes
      = if l.abortAsked then
          { l with
            phase := .failing { reason := .aborted, index := none, why := none }
            runningSum := l.runningSum + BitVec.ofNat 16 (bytes.map BitVec.toNat).sum
            bus := [.receive bytes.length true] }
        else
          { l with
            phase := if n < l.agentCount + l.windowCount then .record (n + 1) else .ending
            runningSum := l.runningSum + BitVec.ofNat 16 (bytes.map BitVec.toNat).sum
            bus := [.receive bytes.length (decide (¬ n < l.agentCount + l.windowCount))] } := by
  by_cases asked : l.abortAsked = true
  · rw [Loader.wentOn, Loader.proceed_aborted (l := l.addSum bytes) asked, if_pos asked]
    rfl
  · have goesOn := Bool.eq_false_of_not_eq_true asked
    rw [Loader.wentOn, Loader.proceed_goesOn (l := l.addSum bytes) goesOn, Loader.after_eq_ending, if_neg asked]
    rfl

/-! #### Agent records (R131 to R133) -/

theorem exec_agentRecord_done (up : s.rstLow = false) (on : s.loader.phase = .record n) (first : 1 ≤ n)
    (last : n ≤ s.loader.agentCount) (full : bytes.length = 8) :
    exec (.agentRecord bytes) s = .next (s.agentRecord n bytes) := by
  have index : s.loader.agentIndex = some n := by
    rw [Loader.agentIndex, on]
    exact if_pos ⟨first, last⟩
  have taken : exec (.agentRecord bytes) s = takeEvent (Instr.agentRecord bytes).wf (s.agentRecord n bytes) s := by
    change execAgentRecord bytes s = _
    rw [execAgentRecord, index]
  rw [taken, takeEvent_can up (by simp [Instr.wf, full, Instr.agentRecordBytes])]

theorem State.agentRecord_fails {why : Reason}
    (check : s.agentCheck (byteAt bytes 0) (byteAt bytes 1) (byteAt bytes 2) (byteAt bytes 3) (byteAt bytes 4)
      = .error why) :
    s.agentRecord n bytes = { s with loader := s.loader.failedAt n why bytes } := by
  rw [State.agentRecord, check]
  rfl

theorem State.agentRecord_passes {a : AgentId} {r : AgentRecord}
    (check : s.agentCheck (byteAt bytes 0) (byteAt bytes 1) (byteAt bytes 2) (byteAt bytes 3) (byteAt bytes 4)
      = .ok (a, r)) :
    s.agentRecord n bytes = { s.loadAgent a r with loader := s.loader.wentOn n bytes } := by
  rw [State.agentRecord, check]
  rfl

section
variable (free : ∀ i, (s.entry i).state = .free)
include free

theorem State.claimedSlots_of_free (a : AgentId) : s.claimedSlots a = [] := by
  simp [State.claimedSlots, State.findClaim, Entry.live, free]

theorem State.freeAgentEntries_of_free (a : AgentId) : s.freeAgentEntries a = s := by
  rw [State.freeAgentEntries]
  induction List.finRange 48 with
  | nil => rfl
  | cons i is ih =>
    rw [List.foldl_cons, if_neg fun used => used.1 (free i)]
    exact ih

/-- With no claims in use a record is loaded as it is, whether it enables the agent or not (R132, R133). -/
theorem State.loadAgent_of_free {a : AgentId} {r : AgentRecord} (none : (s.agent a).inUse = 0) :
    s.loadAgent a r = s.putAgent a { r with inUse := 0 } := by
  rw [State.loadAgent, none, State.claimedSlots_of_free free, State.freeAgentEntries_of_free free, List.foldl_nil,
    ite_self]

theorem State.not_claimsBind_of_free {a : AgentId} (none : (s.agent a).inUse = 0) (c : ClassId) (l : LaneId)
    (quota : Nat) : ¬ s.ClaimsBind a c l quota := by
  rintro (⟨-, used⟩ | less)
  · obtain ⟨i, inUse, -⟩ := State.usedBy_iff.mp used
    exact inUse (free i)
  · rw [none] at less
    exact absurd less (Nat.not_lt_zero _)

end

/-! #### Window records (R13, R15) -/

theorem exec_windowRecord_done (up : s.rstLow = false) (on : s.loader.phase = .record n)
    (first : s.loader.agentCount < n) (last : n ≤ s.loader.agentCount + s.loader.windowCount)
    (full : bytes.length = 64) : exec (.windowRecord bytes) s = .next (s.windowRecord n bytes) := by
  have index : s.loader.windowIndex = some n := by
    rw [Loader.windowIndex, on]
    exact if_pos ⟨first, last⟩
  have taken : exec (.windowRecord bytes) s = takeEvent (Instr.windowRecord bytes).wf (s.windowRecord n bytes) s := by
    change execWindowRecord bytes s = _
    rw [execWindowRecord, index]
  rw [taken, takeEvent_can up (by simp [Instr.wf, full, Instr.windowRecordBytes])]

theorem State.windowRecord_fails {why : Reason}
    (check : s.createCheck (byteAt bytes 0) (byteAt bytes 1) (parseBlock (bytes.drop 2)) = .error why) :
    s.windowRecord n bytes = { s with loader := s.loader.failedAt n why bytes } := by
  simp only [State.windowRecord, check]
  rfl

/-- The loader with the activate-at-end flag of a slot noted where the code of the record is 1 (R166). -/
def Loader.noting (l : Loader) (k : SlotId) (code : Byte) : Loader :=
  { l with activateAtEnd := if code = 1 then l.activateAtEnd ||| (1#64 <<< k.val) else l.activateAtEnd }

theorem Loader.proceed_noting (l : Loader) (p : LoadPhase) (before : List BusEvent) (k : SlotId) (code : Byte) :
    (l.noting k code).proceed p before bytes = (l.proceed p before bytes).noting k code := by
  by_cases asked : l.abortAsked = true
  · rw [Loader.proceed_aborted asked, Loader.proceed_aborted (l := l.noting k code) asked]
    rfl
  · have goesOn := Bool.eq_false_of_not_eq_true asked
    rw [Loader.proceed_goesOn goesOn, Loader.proceed_goesOn (l := l.noting k code) goesOn]
    rfl

section
variable {k : SlotId} {role : Role}
  (check : s.createCheck (byteAt bytes 0) (byteAt bytes 1) (parseBlock (bytes.drop 2)) = .ok (k, role))
include check

theorem State.windowRecord_badCode (undefined : 1 < (byteAt bytes 30).toNat) :
    s.windowRecord n bytes = { s with loader := s.loader.failedAt n .badField bytes } := by
  simp only [State.windowRecord, check]
  exact if_pos (by rwa [fieldAt_one])

theorem State.windowRecord_passes (defined : (byteAt bytes 30).toNat ≤ 1) :
    s.windowRecord n bytes
      = { s.putWindow k
            { Window.create role (parseBlock (bytes.drop 2)) with activeMap := mapOfBytes (bytes.drop 32) } with
          loader := (s.loader.wentOn n bytes).noting k (byteAt bytes 30) } := by
  rw [Loader.wentOn, ← Loader.proceed_noting]
  simp only [State.windowRecord, check]
  exact if_neg (by rw [fieldAt_one]; exact Nat.not_lt.mpr defined)

end

end

/-- Settles O51: the check of the command decides a record, and one that passes is loaded and the load goes on. -/
theorem imageRecordsAreApplied : Obligations.ImageRecordsAreApplied := by
  intro s bytes n up on failed sum more goesOn byte
  have went : s.loader.wentOn n bytes = goesOn := Loader.wentOn_eq _ _ _
  refine ⟨fun first last full => ?_, fun first last full => ?_⟩
  · rw [exec_agentRecord_done up on first last full]
    have fails {why : Reason}
        (check : s.agentCheck (byte 0) (byte 1) (byte 2) (byte 3) (byte 4) = .error why) :
        (.next (s.agentRecord n bytes) : Result) = failed why := congrArg _ (State.agentRecord_fails check)
    refine ⟨fun none => fails (State.agentCheck_badAgent none), fun some out => ?_,
      fun a c l named bit clsIs laneIs small free unused => ?_⟩
    · obtain ⟨a, named⟩ := Option.ne_none_iff_exists'.mp (mt agentOf_eq_none.mp (Nat.not_lt.mpr some))
      exact fails (State.agentCheck_badField named out)
    · have check := State.agentCheck_accepts named bit clsIs laneIs small fun _ =>
        State.not_claimsBind_of_free free unused c l _
      rw [State.agentRecord_passes check, State.loadAgent_of_free free unused, went]
  · intro block
    rw [exec_windowRecord_done up on first last full]
    refine ⟨fun why check => congrArg _ (State.windowRecord_fails check), fun k role check =>
      ⟨fun undefined => congrArg _ (State.windowRecord_badCode check undefined), fun defined =>
        ⟨mapOfBytes (bytes.drop 32), fun i lt => mapOfBytes_drop_getLsbD (by omega) lt, ?_⟩⟩⟩
    rw [State.windowRecord_passes check defined, went]
    have flags : goesOn.activateAtEnd = s.loader.activateAtEnd := by
      rw [← went, Loader.wentOn_eq]
      split <;> rfl
    rw [Loader.noting, flags]
    rfl

end Sys2Proof.Machine

/-! ### The end of a load (R164 to R168, R170) -/

namespace Sys2Proof.Machine

/-! #### A load that succeeds (R168) -/

section
variable {s : State} {h : HeldSettings}

/-- Activations write windows, and the gates follow; they leave everything else alone (R20, R145). -/
theorem State.foldl_activateFlagged_frame (flags : BitVec 64) (ks : List SlotId) (s : State) :
    ks.foldl (State.activateFlagged flags) s
      = { s with
          windows := (ks.foldl (State.activateFlagged flags) s).windows
          gates := (ks.foldl (State.activateFlagged flags) s).gates } := by
  induction ks generalizing s with
  | nil => rfl
  | cons k ks ih =>
    have one : s.activateFlagged flags k
        = { s with windows := (s.activateFlagged flags k).windows, gates := (s.activateFlagged flags k).gates } := by
      unfold State.activateFlagged
      split
      · exact s.modifyWindows_frame _ _
      · rfl
    rw [List.foldl_cons]
    generalize s.activateFlagged flags k = t at one
    rw [one]
    exact ih _

theorem State.settingsApplied_some (settings : s.loader.settings = some h) : s.settingsApplied = s.applySettings h := by
  rw [State.settingsApplied, settings]

/-- The activations keep the Timebase, which runs from then on where the settings say so (R168). -/
theorem State.ranAtEnd_some (settings : s.loader.settings = some h) :
    s.ranAtEnd
      = { s.flaggedActivated with
          timebase := { s.timebase.load h.divider with running := s.timebase.running || h.runAtEnd } } := by
  have kept : s.flaggedActivated.timebase = s.timebase.load h.divider := by
    rw [State.flaggedActivated, State.foldl_activateFlagged_frame, State.settingsApplied_some settings]
    rfl
  have ran : s.ranAtEnd = if h.runAtEnd then s.flaggedActivated.runTimebase else s.flaggedActivated := by
    rw [State.ranAtEnd, settings]
  rw [ran]
  generalize s.flaggedActivated = t at kept
  obtain ⟨⟩ := t
  cases kept
  cases runs : h.runAtEnd <;> cases running : s.timebase.running <;>
    simp [State.runTimebase, Timebase.start, Timebase.load, running]

theorem State.ranAtEnd_attn (settings : s.loader.settings = some h) :
    s.ranAtEnd.attn = { s.attn with enables := h.enables } := by
  rw [State.ranAtEnd_some settings, State.flaggedActivated, State.foldl_activateFlagged_frame,
    State.settingsApplied_some settings]
  rfl

theorem exec_loadSuccess_done (up : s.rstLow = false) (ending : s.loader.phase = .ending)
    (goesOn : s.loader.abortAsked = false) (same : s.loader.runningSum = s.loader.sumField) :
    exec .loadSuccess s = .next s.loadSucceeded :=
  takeEvent_can up (by rw [Loader.succeeds, ending, goesOn, same]; simp)

end

/-! #### What the loader does on the bus at the end (R164 to R166, R170) -/

section
variable {l : Loader}

theorem Loader.ended_closing {bus : List BusEvent} (closes : l.closing = bus) (outcome : LoadOutcome)
    (f : Option LoadFault) :
    l.ended outcome f
      = { Loader.reset with
          result := { outcome := outcome, fault := f, attempts := l.result.attempts }, bus := bus } := by
  rw [Loader.ended, closes]

/-- No byte is in progress in a bus check, in the stop at the end, or in a load that is to fail already. -/
theorem Loader.closing_idleBus (idleBus : l.phase = .busCheck ∨ l.phase = .ending ∨ ∃ f, l.phase = .failing f) :
    l.closing = (if l.started then [.stop] else []) ++ [.release] := by
  rcases idleBus with phase | phase | ⟨f, phase⟩ <;> rw [Loader.closing, phase] <;> rfl

/-- A byte in progress at an abort is completed first (R170). -/
theorem Loader.closing_inByte
    (inByte : l.phase = .addressing ∨ l.phase = .settings ∨ ∃ i, l.phase = .record i) :
    l.closing = [.finishByte] ++ (if l.started then [.stop] else []) ++ [.release] := by
  rcases inByte with phase | phase | ⟨i, phase⟩ <;> rw [Loader.closing, phase] <;> rfl

theorem Loader.failure_failing {f : LoadFault} (failing : l.phase = .failing f) : l.failure = some f := by
  rw [Loader.failure, failing]

theorem Loader.failure_badSum (ending : l.phase = .ending) (goesOn : l.abortAsked = false)
    (differs : l.runningSum ≠ l.sumField) :
    l.failure = some { reason := .badSum, index := none, why := none } := by
  simp only [Loader.failure, ending, goesOn, if_pos differs]
  rfl

/-- A load that runs ends with ABORTED where an abort was asked. -/
theorem Loader.Runs.failure_aborted (runs : l.Runs) (asked : l.abortAsked = true) :
    l.failure = some { reason := .aborted, index := none, why := none } := by
  rcases runs with phase | phase | phase | ⟨i, phase⟩ | phase <;>
    simp only [Loader.failure, phase, asked, if_true] <;> rfl

end

/-! #### A load that fails (R167) -/

section
variable {s t : State} {f : LoadFault}

/-- Once the slots are FREE, the entries, the agents, the service state, the loader and the cause are what is left. -/
theorem State.loadFailed_eq (slots : s.clearSlots (List.finRange 64) = t) :
    s.loadFailed f
      = { t with
          entries := Vector.replicate 48 Entry.free, agents := Vector.replicate 32 AgentRecord.reset, service := .ready,
          loader := s.loader.ended .failed (some f), attn := { t.attn with causes := t.attn.causes ||| 0x80#8 } } := by
  rw [State.loadFailed, slots]
  rfl

/-- Beside the four tables, a load that fails changes the service state, the loader and the causes alone (R167). -/
theorem State.loadFailed_frame (s : State) (f : LoadFault) :
    s.loadFailed f
      = { s with
          windows := (s.loadFailed f).windows, entries := (s.loadFailed f).entries, agents := (s.loadFailed f).agents,
          gates := (s.loadFailed f).gates, service := .ready, loader := s.loader.ended .failed (some f),
          attn := { s.attn with causes := s.attn.causes ||| 0x80#8 } } := by
  obtain ⟨windows, gates, slots⟩ : ∃ windows gates,
      s.clearSlots (List.finRange 64) = { s with windows := windows, gates := gates } :=
    ⟨_, _, s.modifyWindows_frame _ _⟩
  rw [State.loadFailed_eq slots]

theorem State.window_loadFailed (s : State) (f : LoadFault) (k : SlotId) : (s.loadFailed f).window k = Window.free := by
  have windows : (s.loadFailed f).windows = (s.clearSlots (List.finRange 64)).windows := by simp [State.loadFailed]
  rw [State.window_of_windows windows, State.window_clearAll]

theorem State.entry_loadFailed (s : State) (f : LoadFault) (i : EntryId) : (s.loadFailed f).entry i = Entry.free := by
  simp [State.loadFailed, State.entry]

theorem State.agent_loadFailed (s : State) (f : LoadFault) (a : AgentId) :
    (s.loadFailed f).agent a = AgentRecord.reset := by
  simp [State.loadFailed, State.agent]

/-- Gates follow the windows alone, whatever the service state and the loader are (R145). -/
theorem State.GatesReported.setLoad (h : s.GatesReported t) (service : Service) (loader : Loader) :
    s.GatesReported { t with service := service, loader := loader } := h

theorem State.loadFailed_gatesReported (s : State) (f : LoadFault) : s.GatesReported (s.loadFailed f) := by
  have cleared : s.GatesReported (s.clearSlots (List.finRange 64)) :=
    .modifyWindows (List.nodup_finRange 64) s fun _ => Window.free
  generalize slots : s.clearSlots (List.finRange 64) = t at cleared
  rw [State.loadFailed_eq slots]
  exact (cleared.setClaimsAttn _ _ _).setLoad .ready (s.loader.ended .failed (some f))

theorem exec_loadFailure_done (up : s.rstLow = false) (fails : s.loader.failure = some f) :
    exec .loadFailure s = .next (s.loadFailed f) := by
  have taken : exec .loadFailure s = takeEvent true (s.loadFailed f) s := by
    change execLoadFailure s = _
    rw [execLoadFailure, fails]
  rw [taken, takeEvent_can up rfl]

end

/-- Settles O52: a success is its four effects in order, and each way to fail gives its fault and its last bus events. -/
theorem loadEndsInSuccessOrFailure : Obligations.LoadEndsInSuccessOrFailure := by
  refine ⟨fun s h up ending goesOn same settings => ?_, fun s f up => ?_⟩
  · intro loaded activated
    have closes := Loader.closing_idleBus (.inr (.inl ending))
    have applied : s.flaggedActivated = activated := by
      rw [State.flaggedActivated, State.settingsApplied_some settings]
      rfl
    have attn := State.ranAtEnd_attn settings
    rw [exec_loadSuccess_done up ending goesOn same, State.loadSucceeded_eq, State.raise, Attention.raise,
      Loader.ended_closing closes]
    simp only [attn]
    rw [State.ranAtEnd_some settings, applied]
    rfl
  · intro ends aborted
    have ends_of {f : LoadFault} {byte : List BusEvent} (fails : s.loader.failure = some f)
        (closes : s.loader.closing = byte ++ (if s.loader.started then [.stop] else []) ++ [.release]) :
        ends f byte :=
      ⟨s.loadFailed f, exec_loadFailure_done up fails,
        (s.loadFailed_frame f).trans (by rw [Loader.ended_closing closes]),
        s.window_loadFailed f, s.entry_loadFailed f, s.agent_loadFailed f, s.loadFailed_gatesReported f⟩
    refine ⟨fun failing => ?_, fun ending goesOn differs => ?_, fun asked point => ?_, fun asked inByte => ?_⟩
    · exact ends_of (Loader.failure_failing failing) (Loader.closing_idleBus (.inr (.inr ⟨f, failing⟩)))
    · exact ends_of (Loader.failure_badSum ending goesOn differs) (Loader.closing_idleBus (.inr (.inl ending)))
    · have runs : s.loader.Runs := point.imp id fun ending => .inr (.inr (.inr ending))
      exact ends_of (runs.failure_aborted asked) (Loader.closing_idleBus (point.imp id .inl))
    · have runs : s.loader.Runs := .inr (inByte.imp id (Or.imp id .inl))
      exact ends_of (runs.failure_aborted asked) (Loader.closing_inByte inByte)

end Sys2Proof.Machine

/-! ### The queue, and what leaves it alone -/

namespace Sys2Proof.Machine

/-- Settles O1: the step looks at the front of the queue alone. -/
theorem stepTakesFrontCommand : Obligations.StepTakesFrontCommand := fun c rest s front => by
  unfold step
  rw [front]

/-! #### The shared operations -/

theorem State.SameBesidesTables.pending {s t : State} (h : s.SameBesidesTables t) : t.pending = s.pending :=
  (congrArg State.pending h).trans rfl

section
variable (s : State)

/-- What each turn of a loop leaves alone, the loop leaves alone. -/
theorem State.foldl_pending {α : Type} {f : State → α → State} (one : ∀ t a, (f t a).pending = t.pending)
    (as : List α) : (as.foldl f s).pending = s.pending :=
  List.foldlRecOn (motive := fun t : State => t.pending = s.pending) as f rfl fun t same a _ => (one t a).trans same

@[simp] theorem State.commandTaken_pending (c : Instr) : (s.commandTaken c).pending = s.pending := by
  unfold State.commandTaken
  split <;> rfl

@[simp] theorem State.refuse_pending (why : Reason) : (s.refuse why).1.pending = s.pending := rfl

theorem State.withSlot_pending {slot : Byte} {f : SlotId → State × Reply} (same : ∀ k, (f k).1.pending = s.pending) :
    (s.withSlot slot f).1.pending = s.pending := by
  unfold State.withSlot
  split
  · rfl
  · exact same _

@[simp] theorem State.capture_pending (l : LaneId) (r : Request) (why : Reason) :
    (s.capture l r why).pending = s.pending := by
  unfold State.capture
  split <;> rfl

@[simp] theorem State.refuseRequest_pending (l : LaneId) (r : Request) (why : Reason) (slot : Option Byte) :
    (s.refuseRequest l r why slot).pending = s.pending := by
  rw [State.refuseRequest, State.answerLane_pending]
  split <;> simp

/-! #### Units, leases and losses -/

@[simp] theorem State.clearSlots_pending (ks : List SlotId) : (s.clearSlots ks).pending = s.pending :=
  s.modifyWindows_pending ks _

@[simp] theorem State.freezeUnit_pending (h : SlotId) : (s.freezeUnit h).pending = s.pending :=
  s.modifyWindows_pending _ _

@[simp] theorem State.activateUnit_pending (h : SlotId) : (s.activateUnit h).pending = s.pending :=
  s.modifyWindows_pending _ _

@[simp] theorem State.countedUnit_pending (h : SlotId) : (s.countedUnit h).pending = s.pending :=
  s.modifyWindows_pending _ _

@[simp] theorem State.endClaims_pending (ks : List SlotId) : (s.endClaims ks).pending = s.pending :=
  s.endWhere_pending _ _

@[simp] theorem State.goneUnit_pending (h : SlotId) : (s.goneUnit h).pending = s.pending := by
  rw [State.goneUnit, State.clearSlots_pending, State.endClaims_pending]

@[simp] theorem State.drainUnit_pending (h : SlotId) : (s.drainUnit h).pending = s.pending := by
  rw [State.drainUnit, State.modifyWindow_pending, State.modifyWindows_pending, State.endWaits, State.endWhere_pending]

@[simp] theorem State.retireUnit_pending (h : SlotId) (force : Bool) : (s.retireUnit h force).pending = s.pending := by
  unfold State.retireUnit
  split
  · exact s.drainUnit_pending h
  · exact s.goneUnit_pending h

@[simp] theorem State.expireLease_pending (h : SlotId) : (s.expireLease h).pending = s.pending := by
  rw [State.expireLease, State.raise_pending, State.addExpired_pending]
  split
  · rw [State.flipToggles_pending, State.modifyWindow_pending]
  · exact s.freezeUnit_pending h
  · exact s.retireUnit_pending h false

@[simp] theorem State.afterLoss_pending (k : SlotId) : (s.afterLoss k).pending = s.pending :=
  (s.afterLoss_frame k).pending

@[simp] theorem State.grantLookup_pending (k : SlotId) : (s.grantLookup k).pending = s.pending := by
  simp only [State.grantLookup]
  split
  · split <;> simp
  · exact s.modifyWindow_pending k _

@[simp] theorem State.loadAgent_pending (a : AgentId) (r : AgentRecord) : (s.loadAgent a r).pending = s.pending := by
  unfold State.loadAgent
  split
  · exact s.putAgent_pending a _
  · rw [State.foldl_pending _ State.afterLoss_pending, State.putAgent_pending,
      congrArg State.pending (s.freeAgentEntries_frame a)]

/-! #### Ticks -/

@[simp] theorem State.tickOpen_pending (h : SlotId) : (s.tickOpen h).pending = s.pending := by
  have leased : (s.leasedUnit h).pending = s.pending := by
    unfold State.leasedUnit
    split <;> simp
  have headed : (s.headedUnit h).pending = s.pending := by
    unfold State.headedUnit
    split <;> simp [State.idleOutUnit, leased]
  rw [State.tickOpen, State.foldl_pending _ (fun t k => by split <;> simp [State.idleOutAlone]), headed]

@[simp] theorem State.tickDraining_pending (h : SlotId) : (s.tickDraining h).pending = s.pending := by
  simp only [State.tickDraining]
  split <;> simp [State.forceDrained]

@[simp] theorem State.tickUnit_pending (h : SlotId) : (s.tickUnit h).pending = s.pending := by
  unfold State.tickUnit
  split
  · exact s.modifyWindows_pending _ _
  · exact s.tickOpen_pending h
  · exact s.tickDraining_pending h
  all_goals rfl

theorem State.windowTick_pending : s.windowTick.pending = s.pending :=
  State.foldl_pending _ (fun t k => by split <;> simp) _

theorem State.claimTick_pending : s.claimTick.pending = s.pending := by
  rw [State.claimTick_eq, State.foldl_pending _ State.afterLoss_pending, congrArg State.pending s.claimsTimed_frame]

end

/-! #### The bodies of the management commands -/

section
variable (u : State)

theorem agentSetReply_pending (agent enabled cls lane quota : Byte) :
    (agentSetReply agent enabled cls lane quota u).1.pending = u.pending := by
  unfold agentSetReply
  split
  · rfl
  · exact u.loadAgent_pending _ _

theorem windowCreateReply_pending (slot role : Byte) (b : FieldBlock) :
    (windowCreateReply slot role b u).1.pending = u.pending := by
  unfold windowCreateReply
  split <;> rfl

theorem windowModifyReply_pending (slot select : Byte) (b : FieldBlock) :
    (windowModifyReply slot select b u).1.pending = u.pending :=
  u.withSlot_pending fun k => by split <;> rfl

theorem activateReply_pending (slot : Byte) : (activateReply slot u).1.pending = u.pending :=
  u.withSlot_pending fun k => by split_ifs <;> simp

theorem disarmReply_pending (slot : Byte) : (disarmReply slot u).1.pending = u.pending :=
  u.withSlot_pending fun k => by split_ifs <;> simp

theorem freezeReply_pending (slot : Byte) : (freezeReply slot u).1.pending = u.pending :=
  u.withSlot_pending fun k => by split_ifs <;> simp

theorem thawReply_pending (slot : Byte) : (thawReply slot u).1.pending = u.pending :=
  u.withSlot_pending fun k => by
    split_ifs
    · rfl
    · rfl
    · exact (u.foldl_thawSlot_sameBesidesTables _).pending

theorem renewReply_pending (slot : Byte) (count : BitVec 16) : (renewReply slot count u).1.pending = u.pending :=
  u.withSlot_pending fun k => by split_ifs <;> rfl

theorem retireReply_pending (slot force : Byte) : (retireReply slot force u).1.pending = u.pending :=
  u.withSlot_pending fun k => by split_ifs <;> simp

theorem mapWriteReply_pending (slot index : Byte) (word : Word32) :
    (mapWriteReply slot index word u).1.pending = u.pending :=
  u.withSlot_pending fun k => by
    simp only
    split
    · rfl
    · split <;> rfl

theorem mapCommitReply_pending (slot : Byte) : (mapCommitReply slot u).1.pending = u.pending :=
  u.withSlot_pending fun k => by
    simp only
    split <;> rfl

theorem timebaseReply_pending (divider : BitVec 16) (flags run : Byte) :
    (timebaseReply divider flags run u).1.pending = u.pending := by
  unfold timebaseReply
  split <;> rfl

theorem settingsReply_pending (limit : Byte) : (settingsReply limit u).1.pending = u.pending := by
  unfold settingsReply
  split <;> rfl

theorem pulseSetReply_pending (enables qualification : Byte) :
    (pulseSetReply enables qualification u).1.pending = u.pending := by
  unfold pulseSetReply
  split <;> rfl

theorem gateBindReply_pending (gate bind slot polarity mode : Byte) :
    (gateBindReply gate bind slot polarity mode u).1.pending = u.pending := by
  simp only [gateBindReply]
  split
  · rfl
  · split
    · rfl
    · split
      · split <;> rfl
      · rfl

theorem clearAllReply_pending : (clearAllReply u).1.pending = u.pending := by
  simp only [clearAllReply, State.clearTables, State.clearSlots_pending]

theorem reloadReply_pending : (reloadReply u).1.pending = u.pending := by
  unfold reloadReply
  split <;> rfl

theorem loadAbortReply_pending : (loadAbortReply u).1.pending = u.pending := by
  unfold loadAbortReply
  split <;> rfl

/-! #### The bodies of the lane requests -/

theorem State.lookup_pending (l : LaneId) (r : Request) (access : ClaimKind) :
    (u.lookup l r access).pending = u.pending := by
  unfold State.lookup
  split <;> simp

theorem State.claim_pending (l : LaneId) (r : Request) (kind : ClaimKind) : (u.claim l r kind).pending = u.pending := by
  unfold State.claim
  split
  · exact u.refuseRequest_pending _ _ _ _
  · unfold State.decideClaim
    split
    · exact u.answerLane_pending _ _
    · split
      · exact u.refuseRequest_pending _ _ _ _
      · split <;> rfl

theorem State.releaseOnLane_pending (l : LaneId) (r : Request) : (u.releaseOnLane l r).pending = u.pending := by
  have released (i : EntryId) (k : SlotId) : (u.releaseHeld i k).pending = u.pending := by simp [State.releaseHeld]
  have withdrawn (i : EntryId) (k : SlotId) : (u.withdraw i k).pending = u.pending := by
    unfold State.withdraw
    split <;> simp
  unfold State.releaseOnLane
  split
  · exact u.refuseRequest_pending _ _ _ _
  · split
    · exact u.refuseRequest_pending _ _ _ _
    · split
      · exact released _ _
      · exact withdrawn _ _

theorem State.renewOnLane_pending (l : LaneId) (r : Request) : (u.renewOnLane l r).pending = u.pending := by
  unfold State.renewOnLane
  split
  · exact u.refuseRequest_pending _ _ _ _
  · rfl

/-! #### Pulses and the load -/

theorem State.restart_pending (p : PulsePair) : (u.restart p).pending = u.pending := by
  rw [State.restart, State.modifyWindows_pending, State.putPair_pending]

theorem State.advance_pending (p : PulsePair) : (u.advance p).pending = u.pending := by
  rw [congrArg State.pending State.advance_frame, State.putPair_pending]

theorem State.sampleLine_pending (line : PulseLine) (high : Bool) : (u.sampleLine line high).pending = u.pending := by
  cases line <;> rfl

theorem State.agentRecord_pending (index : Nat) (bytes : List Byte) :
    (u.agentRecord index bytes).pending = u.pending := by
  unfold State.agentRecord
  split
  · rfl
  · exact u.loadAgent_pending _ _

theorem State.windowRecord_pending (index : Nat) (bytes : List Byte) :
    (u.windowRecord index bytes).pending = u.pending := by
  simp only [State.windowRecord]
  split
  · rfl
  · split <;> rfl

theorem State.loadSucceeded_pending : u.loadSucceeded.pending = u.pending := by
  have applied : u.settingsApplied.pending = u.pending := by
    unfold State.settingsApplied
    split <;> rfl
  have activated : u.flaggedActivated.pending = u.pending :=
    (congrArg State.pending (State.foldl_activateFlagged_frame _ _ _)).trans applied
  have ran : u.ranAtEnd.pending = u.pending := by
    unfold State.ranAtEnd
    split
    · exact activated
    · split <;> exact activated
  rw [State.loadSucceeded_eq, State.raise_pending]
  exact ran

theorem State.loadFailed_pending (f : LoadFault) : (u.loadFailed f).pending = u.pending := by
  simp only [State.loadFailed, State.raise_pending, State.clearSlots_pending]

end

end Sys2Proof.Machine

/-! ### Every command answers a next state -/

namespace Sys2Proof.Machine

/-- The outcome is a next state, in which the queue is that of `s`. -/
def State.AnswersNext (s : State) (r : Result) : Prop := ∃ t, r = .next t ∧ t.pending = s.pending

section
variable {s : State}

/-! #### The taking of a command, of a request and of an event -/

theorem takeCommand_answersNext {code : Byte} {c : Instr} {body : State → State × Reply}
    (same : ∀ u : State, (body u).1.pending = u.pending) : s.AnswersNext (takeCommand code c body s) := by
  by_cases due : s.commandDue c = true
  · exact ⟨_, takeCommand_due due, by rw [State.complete_pending, same, State.commandTaken_pending]⟩
  · exact ⟨s, takeCommand_notDue (by simpa using due), rfl⟩

/-- A command whose body changes nothing. -/
theorem takeCommand_answersNext_of_fst {code : Byte} {c : Instr} {body : State → State × Reply}
    (same : ∀ u : State, (body u).1 = u) : s.AnswersNext (takeCommand code c body s) :=
  takeCommand_answersNext fun u => congrArg State.pending (same u)

theorem takeRequest_answersNext {c : Instr} {l : LaneId} {r : Request} {body : State → State}
    (same : ∀ u : State, (body u).pending = u.pending) : s.AnswersNext (takeRequest c l r body s) := by
  cases due : c.wf && s.requestDue l r with
  | false => exact ⟨s, takeRequest_notDue due, rfl⟩
  | true =>
    obtain ⟨wf, due⟩ := Bool.and_eq_true_iff.mp due
    exact ⟨_, takeRequest_due wf due, by rw [same, State.laneGranted_pending]⟩

theorem takeEvent_answersNext {can : Bool} {effect : State} (same : effect.pending = s.pending) :
    s.AnswersNext (takeEvent can effect s) := by
  unfold takeEvent
  split
  · exact ⟨effect, rfl, same⟩
  · exact ⟨s, rfl, rfl⟩

/-! #### The commands -/

theorem execResetRelease_answersNext (loaden : Bool) (imga : BitVec 3) :
    s.AnswersNext (execResetRelease loaden imga s) := by
  unfold execResetRelease
  split
  · exact ⟨_, rfl, by cases loaden <;> rfl⟩
  · exact ⟨s, rfl, rfl⟩

theorem execLeaseExpiry_answersNext (k : SlotId) : s.AnswersNext (execLeaseExpiry k s) := by
  unfold execLeaseExpiry
  split
  · exact takeEvent_answersNext (State.lookup_pending _ _ _ _)
  · exact takeEvent_answersNext s.windowTick_pending

theorem exec_answersNext (c : Instr) (s : State) : s.AnswersNext (exec c s) := by
  cases c with
  | deviceReset => exact ⟨_, rfl, rfl⟩
  | resetRelease loaden imga => exact execResetRelease_answersNext loaden imga
  | frameStart => exact takeEvent_answersNext rfl
  | frameEnd bits extra => exact takeEvent_answersNext rfl
  | readResponse bits => exact takeEvent_answersNext rfl
  | status => exact takeCommand_answersNext fun _ => rfl
  | agentSet a e c l q => exact takeCommand_answersNext fun u => agentSetReply_pending u a e c l q
  | agentQuery a => exact takeCommand_answersNext_of_fst (agentQueryReply_fst a)
  | windowCreate slot role b => exact takeCommand_answersNext fun u => windowCreateReply_pending u slot role b
  | windowModify slot select b => exact takeCommand_answersNext fun u => windowModifyReply_pending u slot select b
  | windowQuery slot => exact takeCommand_answersNext_of_fst (windowQueryReply_fst slot)
  | activate slot => exact takeCommand_answersNext fun u => activateReply_pending u slot
  | disarm slot => exact takeCommand_answersNext fun u => disarmReply_pending u slot
  | freeze slot => exact takeCommand_answersNext fun u => freezeReply_pending u slot
  | thaw slot => exact takeCommand_answersNext fun u => thawReply_pending u slot
  | renew slot count => exact takeCommand_answersNext fun u => renewReply_pending u slot count
  | retire slot force => exact takeCommand_answersNext fun u => retireReply_pending u slot force
  | mapWrite slot index word => exact takeCommand_answersNext fun u => mapWriteReply_pending u slot index word
  | mapRead slot index selector => exact takeCommand_answersNext_of_fst (mapReadReply_fst slot index selector)
  | mapCommit slot => exact takeCommand_answersNext fun u => mapCommitReply_pending u slot
  | claimQuery e => exact takeCommand_answersNext_of_fst (claimQueryReply_fst e)
  | clearAll => exact takeCommand_answersNext clearAllReply_pending
  | timebase divider flags run => exact takeCommand_answersNext fun u => timebaseReply_pending u divider flags run
  | settings limit => exact takeCommand_answersNext fun u => settingsReply_pending u limit
  | pulseSet e q => exact takeCommand_answersNext fun u => pulseSetReply_pending u e q
  | gateBind g b k p m => exact takeCommand_answersNext fun u => gateBindReply_pending u g b k p m
  | gatesSet levels => exact takeCommand_answersNext fun _ => rfl
  | attentionEnable e => exact takeCommand_answersNext fun _ => rfl
  | ack causes slots => exact takeCommand_answersNext fun _ => rfl
  | readExpired => exact takeCommand_answersNext fun _ => rfl
  | reportRead => exact takeCommand_answersNext fun _ => rfl
  | reportClear => exact takeCommand_answersNext fun _ => rfl
  | reload => exact takeCommand_answersNext reloadReply_pending
  | loadAbort => exact takeCommand_answersNext loadAbortReply_pending
  | requestTake l word => exact takeEvent_answersNext rfl
  | requestWithdraw l => exact takeEvent_answersNext rfl
  | lookupRead l r => exact takeRequest_answersNext fun u => u.lookup_pending l r .read
  | lookupWrite l r => exact takeRequest_answersNext fun u => u.lookup_pending l r .write
  | claimRead l r => exact takeRequest_answersNext fun u => u.claim_pending l r .read
  | claimWrite l r => exact takeRequest_answersNext fun u => u.claim_pending l r .write
  | release l r => exact takeRequest_answersNext fun u => u.releaseOnLane_pending l r
  | renewRequest l r => exact takeRequest_answersNext fun u => u.renewOnLane_pending l r
  | badKind l r => exact takeRequest_answersNext fun u => u.refuseRequest_pending l r _ none
  | answerOffer l => exact takeEvent_answersNext rfl
  | noticeDelivery l =>
    simp only [exec, execNoticeDelivery]
    split
    · exact ⟨s, rfl, rfl⟩
    · exact takeEvent_answersNext rfl
  | messageTaken l => exact takeEvent_answersNext rfl
  | tick => exact takeEvent_answersNext rfl
  | windowTick => exact takeEvent_answersNext s.windowTick_pending
  | leaseExpiry k => exact execLeaseExpiry_answersNext k
  | idleExpiry k => exact takeEvent_answersNext s.windowTick_pending
  | drainExpiry k => exact takeEvent_answersNext s.windowTick_pending
  | claimTick => exact takeEvent_answersNext s.claimTick_pending
  | revocation i => exact takeEvent_answersNext s.claimTick_pending
  | waitExpiry i => exact takeEvent_answersNext s.claimTick_pending
  | restart p => exact takeEvent_answersNext (s.restart_pending p)
  | advance p => exact takeEvent_answersNext (s.advance_pending p)
  | busCheck n => exact takeEvent_answersNext rfl
  | addressNak => exact takeEvent_answersNext rfl
  | offsetNak => exact takeEvent_answersNext rfl
  | busHeld => exact takeEvent_answersNext rfl
  | imageHeader bytes => exact takeEvent_answersNext rfl
  | settingsRecord bytes => exact takeEvent_answersNext rfl
  | agentRecord bytes =>
    simp only [exec, execAgentRecord]
    split
    · exact ⟨s, rfl, rfl⟩
    · exact takeEvent_answersNext (s.agentRecord_pending _ bytes)
  | windowRecord bytes =>
    simp only [exec, execWindowRecord]
    split
    · exact ⟨s, rfl, rfl⟩
    · exact takeEvent_answersNext (s.windowRecord_pending _ bytes)
  | loadSuccess => exact takeEvent_answersNext s.loadSucceeded_pending
  | loadFailure =>
    simp only [exec, execLoadFailure]
    split
    · exact ⟨s, rfl, rfl⟩
    · exact takeEvent_answersNext (s.loadFailed_pending _)
  | pulseLineSample line high => exact takeEvent_answersNext (s.sampleLine_pending line high)
  | requestWord l word => exact takeEvent_answersNext rfl
  | shiftOutCopy => exact takeEvent_answersNext rfl

end

/-- Settles O2: a command is taken or changes nothing, and what is taken leaves the queue alone. -/
theorem everyCommandAnswersNext : Obligations.EveryCommandAnswersNext := exec_answersNext

end Sys2Proof.Machine
